-- ==== Sys2Proof/Word.lean ====
section
/-! DEFINITION. The byte, the one word the link and the private bus carry. Block addresses, charges, stamps and counts are
numbers (`Nat`, `Int`): the manual computes with them exactly and says where one saturates, clamps or wraps. -/

namespace Sys2Proof

/-- One byte of a frame on the I2C link or of a transfer on the private bus. -/
abbrev Byte := BitVec 8

end Sys2Proof
end

