-- ==== Sys2Proof/Config.lean ====
section
/-! DEFINITION. What the part fixes once (R1, R5, R75, R183) and the free values: what the manual leaves to the world outside
the part or to an order it does not fix. A free value is opaque: nothing can be proved of it. -/

namespace Sys2Proof.Config

/-- The window slots of the pool (R5). -/
def poolSlots : Nat := 192

/-- The windows one entry may hold (R1). -/
def maxWindows : Nat := 8

/-- The bytes of the longest label (R1). -/
def maxLabel : Nat := 16

/-- The largest size class (R5). -/
def maxClass : Nat := 19

/-- The payload bytes of the longest request frame (R192). -/
def maxPayload : Nat := 80

/-- The bytes the request buffer stores (R190, R193). -/
def bufferBytes : Nat := 82

/-- The part code READ-STATUS reports (R183). -/
def partCode : Byte := 0x3C

/-- The revision READ-STATUS reports (R183). -/
def revision : Byte := 0x41

/-- The 7-bit address of the motion sensor on the private bus (R75). -/
def sensorAddress : BitVec 7 := 0x2A

/-- The bytes a setup writes to the sensor (R75). -/
def setupBytes : List Byte := [0x20, 0x57, 0x08]

/-- The index a read writes to the sensor before it turns the bus round (R75). -/
def readIndex : Byte := 0x28

/-- The largest value of a four-byte field: the top of the saturating counts and of a hold deadline. -/
def top32 : Nat := 4294967295

/-- FREE VALUE (log entry 5): which of the events that fall due at one tick is taken first (R177: either may be). -/
opaque pickFirst : Nat → Nat

/-- FREE VALUE (log entry 6): the code the current converter delivers at a period end that falls due at a tick (R128). -/
opaque senseCode : Nat → BitVec 16

/-- FREE VALUE (log entry 6): the millivolts the voltage sense reads at a period end that falls due at a tick (R128). -/
opaque senseVolts : Nat → BitVec 16

end Sys2Proof.Config
end

