-- ==== Sys2Proof/Syntax.lean ====
section
/-! DEFINITION. The commands of the block: one constructor for each row of spec/opcode_table.json. The first 29 are the
requests of R201; each carries the payload bytes of its request frame exactly as the bridge wrote them, so that every payload
the bridge can write, of a right or a wrong length, is an operand. The others are the events at the part's lines, sensor,
timers and supplies. Who may send a command when is said in INVENTORY.md. -/

namespace Sys2Proof

/-- The direction an address byte names: a write to the part or a read from it (R191). -/
inductive Dir
  | write
  | read
  deriving DecidableEq, Repr

/-- The commands, one constructor for each row of the table of operations and events. -/
inductive Instr
  /-- READ_STATUS, R183: the write of a READ-STATUS request ends. -/
  | readStatus (payload : List Byte)
  /-- CLEAR_ATTENTION, R185: the write of a CLEAR-ATTENTION request ends. -/
  | clearAttention (payload : List Byte)
  /-- RESTART, R162: the write of a RESTART request ends. -/
  | restart (payload : List Byte)
  /-- READ_PARAM, R207: the write of a READ-PARAM request ends. -/
  | readParam (payload : List Byte)
  /-- SET_PARAM, R206: the write of a SET-PARAM request ends. -/
  | setParam (payload : List Byte)
  /-- READ_CLOCK, R173: the write of a READ-CLOCK request ends. -/
  | readClock (payload : List Byte)
  /-- SET_CLOCK, R172: the write of a SET-CLOCK request ends. -/
  | setClock (payload : List Byte)
  /-- OPEN_SURVEY, R11, R12: the write of a OPEN-SURVEY request ends. -/
  | openSurvey (payload : List Byte)
  /-- ADD_WINDOW, R14, R15: the write of a ADD-WINDOW request ends. -/
  | addWindow (payload : List Byte)
  /-- DROP_WINDOW, R16, R17: the write of a DROP-WINDOW request ends. -/
  | dropWindow (payload : List Byte)
  /-- FIND_SURVEY, R20: the write of a FIND-SURVEY request ends. -/
  | findSurvey (payload : List Byte)
  /-- FIND_BLOCK, R19: the write of a FIND-BLOCK request ends. -/
  | findBlock (payload : List Byte)
  /-- READ_ENTRY, R21: the write of a READ-ENTRY request ends. -/
  | readEntry (payload : List Byte)
  /-- NEXT_ENTRY, R23: the write of a NEXT-ENTRY request ends. -/
  | nextEntry (payload : List Byte)
  /-- RENAME, R24: the write of a RENAME request ends. -/
  | rename (payload : List Byte)
  /-- SEAL, R55: the write of a SEAL request ends. -/
  | seal (payload : List Byte)
  /-- VERIFIED, R59: the write of a VERIFIED request ends. -/
  | verified (payload : List Byte)
  /-- REOPEN, R61: the write of a REOPEN request ends. -/
  | reopen (payload : List Byte)
  /-- SET_HOLD, R64: the write of a SET-HOLD request ends. -/
  | setHold (payload : List Byte)
  /-- RETIRE, R66: the write of a RETIRE request ends. -/
  | retire (payload : List Byte)
  /-- RESTORE, R71 to R73: the write of a RESTORE request ends. -/
  | restore (payload : List Byte)
  /-- CHECK_WRITE, R33 to R40: the write of a CHECK-WRITE request ends. -/
  | checkWrite (payload : List Byte)
  /-- WRITE_DONE, R42, R43: the write of a WRITE-DONE request ends. -/
  | writeDone (payload : List Byte)
  /-- READ_GRANTS, R50: the write of a READ-GRANTS request ends. -/
  | readGrants (payload : List Byte)
  /-- READ_GUARD, R97: the write of a READ-GUARD request ends. -/
  | readGuard (payload : List Byte)
  /-- SET_TARGET, R105: the write of a SET-TARGET request ends. -/
  | setTarget (payload : List Byte)
  /-- READ_MECHANISM, R121: the write of a READ-MECHANISM request ends. -/
  | readMechanism (payload : List Byte)
  /-- READ_GAUGE, R145: the write of a READ-GAUGE request ends. -/
  | readGauge (payload : List Byte)
  /-- SET_CHARGE, R137: the write of a SET-CHARGE request ends. -/
  | setCharge (payload : List Byte)
  /-- MALFORMED, R194: a write of these data bytes ends, and its count disagrees with its framing. -/
  | malformed (bytes : List Byte)
  /-- UNKNOWN, R194: a well-framed write ends whose request code is not in the table of R201. -/
  | unknown (code : Byte) (payload : List Byte)
  /-- EMPTY_WRITE, R193: a write addressed to the part ends with no data byte. -/
  | emptyWrite
  /-- ADDRESS_MATCH, R191: a start condition and an address byte naming a 7-bit address and a direction. -/
  | addressMatch (address : BitVec 7) (dir : Dir)
  /-- ANSWER_FORMED, R195: the forming of an answer ends. -/
  | answerFormed
  /-- ANSWER_READ, R196: a read transfer in which the bridge clocks this many bytes ends. -/
  | answerRead (bytes : Nat)
  /-- LINK_CLEAR, R199: LCLR_N falls. -/
  | linkClear
  /-- LINK_CLEAR_RELEASE, R199: LCLR_N returns high. -/
  | linkClearRelease
  /-- SAMPLE_TIMER_EXPIRY, R77. -/
  | sampleTimerExpiry
  /-- SETUP_COMPLETE, R75 and R78: a setup ends; whether the address and each of the three bytes was acknowledged. -/
  | setupComplete (address first second third : Bool)
  /-- READ_COMPLETE, R75 and R79: a read ends; whether each address phase and the index byte was acknowledged, and the data
  bytes received. -/
  | readComplete (writeAddress index readAddress : Bool) (data : List Byte)
  /-- SETTLE_TIMER_EXPIRY, R94. -/
  | settleTimerExpiry
  /-- GRANT_DEADLINE_EXPIRY, R44: the deadline of the grant in this slot of the grant table expires. -/
  | grantDeadlineExpiry (slot : Fin 8)
  /-- SUPPLY_SETTLE_EXPIRY, R109: the phase timer expires in POWERING. -/
  | supplySettleExpiry
  /-- SPIN_TIMEOUT_EXPIRY, R110: the phase timer expires in SPINNING. -/
  | spinTimeoutExpiry
  /-- UNLOAD_TIME_EXPIRY, R113: the phase timer expires in UNLOADING. -/
  | unloadTimeExpiry
  /-- SPIN_DOWN_EXPIRY, R114: the phase timer expires in STOPPING. -/
  | spinDownExpiry
  /-- CYCLE_DELAY_EXPIRY, R115: the phase timer expires in CYCLE_WAIT. -/
  | cycleDelayExpiry
  /-- DRDY_ASSERTED, R110 and R117: the mechanism asserts its ready line. -/
  | drdyAsserted
  /-- DRDY_RELEASED, R117: the mechanism releases its ready line. -/
  | drdyReleased
  /-- PERIOD_END, R128 and R129: the gauge timer expires; the current code and the voltage in mV the converters deliver. -/
  | periodEnd (code : BitVec 16) (volts : BitVec 16)
  /-- SPRS_CHANGE, R153: the supply-present line changes to this level (`true`: high, supply present). -/
  | sprsChange (present : Bool)
  /-- DOZE_TIMER_EXPIRY, R157. -/
  | dozeTimerExpiry
  /-- ENTER_RETAIN, R158: VMAIN falls below 2.60 V. -/
  | enterRetain
  /-- RETAINED_CONTENTS_LOSS, R152: VKEEP falls below 1.8 V. -/
  | retainedContentsLoss
  /-- COLD_START, R160: VMAIN reaches its working level with the store invalid; the levels SPRS and ADSEL read. -/
  | coldStart (sprs adsel : Bool)
  /-- WARM_START, R161: VMAIN reaches its working level with the store valid; the levels SPRS and ADSEL read. -/
  | warmStart (sprs adsel : Bool)
  /-- SECOND_STEP, R170: the second step of the Time Base. -/
  | secondStep
  /-- WAKING_TRANSFER_END, R198: the transfer whose address was NAKed to wake the part ends. -/
  | wakingTransferEnd
  deriving DecidableEq, Repr

end Sys2Proof
end

