-- ==== Sys2Proof/Machine/State.lean ====
section
/-! DEFINITION. The state of the nine blocks and of the lines they read, as plain data, and the state right after reset. One
structure per block, holding what its chapter gives it; n_open, the free pool count, the outstanding counts, the output lines
and the conditions the manual says are computed and not stored are computed from these fields in Machine/Flags.lean. -/

namespace Sys2Proof.Machine

/-- A timer (R175): stopped, or running with a remaining time in ticks. A running timer whose remaining time is 0 has reached
the end of its time at a tick, and its expiry waits to be taken. -/
abbrev Timer := Option Nat

/-- The outcome codes of R202. -/
inductive Code
  | ok
  | granted
  | split
  | hold
  | denied
  | full
  | notFound
  | exists
  | overlap
  | misaligned
  | outOfRange
  | badState
  | held
  | reserve
  | locked
  | badArg
  | stale
  | malformed
  | unknown
  | noRequest
  deriving DecidableEq, Repr

/-- An answer frame (R192): its outcome and its payload bytes. -/
structure Answer where
  /-- The outcome. -/
  code : Code
  /-- The payload. -/
  payload : List Byte
  deriving DecidableEq, Repr

/-- The states of an entry (section 1.4). -/
inductive EntryState
  | free
  | opened
  | closing
  | sealed
  | retiring
  deriving DecidableEq, Repr

/-- A window (R1, R5): its base block and its size class. -/
structure Window where
  /-- The base block. -/
  base : Nat
  /-- The size class, 0..19. -/
  cls : Nat
  deriving DecidableEq, Repr

/-- An entry record (R1). -/
structure Entry where
  /-- Where the entry stands in its life. -/
  state : EntryState
  /-- The survey number; none in a FREE record. -/
  number : Option Nat
  /-- The label. -/
  label : List Byte
  /-- The windows in order of attachment. -/
  windows : List Window
  /-- The opened stamp; absent in a FREE record. -/
  opened : Option Nat
  /-- The sealed stamp. -/
  sealed : Option Nat
  /-- The hold deadline in run seconds. -/
  hold : Option Nat
  /-- The verify-pending mark. -/
  verify : Bool
  /-- Grants issued. -/
  issued : Nat
  /-- Blocks written. -/
  written : Nat
  /-- Jolts. -/
  jolts : Nat
  deriving DecidableEq, Repr

/-- The cleared record of a FREE entry (R1). -/
def Entry.cleared : Entry :=
  { state := .free, number := none, label := [], windows := [], opened := none, sealed := none, hold := none,
    verify := false, issued := 0, written := 0, jolts := 0 }

/-- The unmapped-write policy (R8). -/
inductive UnmappedPolicy
  | allow
  | deny
  deriving DecidableEq, Repr

/-- The Survey Table: 64 entry records, the media limit and the unmapped-write policy (R1, R7, R8). The pool of 192 window
slots is held by the windows lists: a slot is free when no live entry holds it (R5). -/
structure SurveyTable where
  /-- The 64 records in slot order. -/
  entries : Vector Entry 64
  /-- The media limit. -/
  mediaLimit : Nat
  /-- The unmapped-write policy. -/
  policy : UnmappedPolicy
  deriving DecidableEq, Repr

/-- What the range lookup of R18 answers. -/
inductive Lookup
  /-- The block lies in the window of this index of the entry in this slot. -/
  | covered (slot : Fin 64) (index : Nat) (window : Window)
  /-- The block lies in no window; the lowest base above it, if there is one. -/
  | uncovered (next : Option Nat)
  deriving DecidableEq, Repr

/-- A grant (R29). -/
structure Grant where
  /-- The tag byte. -/
  tag : Nat
  /-- The entry whose window holds the range; absent for an unmapped grant. -/
  entry : Option (Fin 64)
  /-- The index of that window; 0 for an unmapped grant. -/
  window : Nat
  /-- The first block. -/
  first : Nat
  /-- The count of blocks. -/
  count : Nat
  /-- The remaining time of the deadline timer, in ticks. -/
  remaining : Nat
  deriving DecidableEq, Repr

/-- The Write Check Unit's grant table: 8 slots, a generation for each, and the grant timeout (R29, R30, R31). -/
structure GrantTable where
  /-- The slots in slot order. -/
  slots : Vector (Option Grant) 8
  /-- The generation of each slot, counted modulo 32. -/
  generations : Vector (Fin 32) 8
  /-- The grant timeout in ms. -/
  timeout : Nat
  deriving DecidableEq, Repr

/-- The guard states (R87). -/
inductive GuardState
  | calm
  | watch
  | falling
  | settle
  | blind
  deriving DecidableEq, Repr

/-- The classes of a sample (R85). -/
inductive SampleClass
  | low
  | normal
  | impact
  deriving DecidableEq, Repr

/-- The last sample (R76): three axes in counts, the magnitude squared and the class. -/
structure Sample where
  /-- The X axis. -/
  x : Int
  /-- The Y axis. -/
  y : Int
  /-- The Z axis. -/
  z : Int
  /-- The magnitude squared (R83). -/
  m2 : Nat
  /-- The class (R85). -/
  cls : SampleClass
  deriving DecidableEq, Repr

/-- The transfer in flight on the private bus (R76). -/
inductive Transfer
  | none
  | setup
  | read
  deriving DecidableEq, Repr

/-- The kinds of an episode (R95). -/
inductive EpisodeKind
  | none
  | fall
  | knock
  deriving DecidableEq, Repr

/-- The episode summary (R95). -/
structure Episode where
  /-- The kind. -/
  kind : EpisodeKind
  /-- Whether the episode is open. -/
  isOpen : Bool
  /-- The largest m2 taken while it was open. -/
  peak : Nat
  /-- The ms spent in FALLING. -/
  duration : Nat
  /-- The entries into FALLING. -/
  falls : Nat
  deriving DecidableEq, Repr

/-- The blind policy (R82). -/
inductive BlindPolicy
  | proceed
  | hold
  deriving DecidableEq, Repr

/-- The Motion Guard and its Sensor Port (R76, R82, R84, R86, R87, R95, R96). -/
structure Guard where
  /-- The guard state. -/
  state : GuardState
  /-- The run counter. -/
  run : Nat
  /-- The settle timer. -/
  settle : Timer
  /-- The ms spent in FALLING since it was last entered (R91, R95). -/
  fallMs : Nat
  /-- The episode summary. -/
  episode : Episode
  /-- The falls counter. -/
  falls : Nat
  /-- The knocks counter. -/
  knocks : Nat
  /-- The transfer in flight. -/
  transfer : Transfer
  /-- Setup pending. -/
  setupPending : Bool
  /-- The miss count. -/
  misses : Nat
  /-- The last sample. -/
  lastSample : Option Sample
  /-- The sample timer. -/
  sampleTimer : Timer
  /-- The sample period in ms. -/
  samplePeriod : Nat
  /-- The free-fall threshold Ff in counts. -/
  ff : Nat
  /-- The impact threshold Fi in counts. -/
  fi : Nat
  /-- The fall count Nf in samples. -/
  nf : Nat
  /-- The settle time in ms. -/
  settleTime : Nat
  /-- The blind policy. -/
  blindPolicy : BlindPolicy
  deriving DecidableEq, Repr

/-- The sequencer states (R102). -/
inductive SeqState
  | off
  | powering
  | spinning
  | ready
  | draining
  | unloading
  | stopping
  | cycleWait
  deriving DecidableEq, Repr

/-- The target (R105). -/
inductive Target
  | off
  | on
  deriving DecidableEq, Repr

/-- The fault latch (R118). -/
inductive FaultLatch
  | clear
  | spinTimeout
  | readyLost
  deriving DecidableEq, Repr

/-- The stop causes (R103). -/
inductive StopCause
  | none
  | target
  | battery
  | fall
  | spinTimeout
  | readyLost
  | restart
  | supplyLoss
  deriving DecidableEq, Repr

/-- The Mechanism Sequencer (R103, R119). -/
structure Sequencer where
  /-- The state. -/
  state : SeqState
  /-- The target. -/
  target : Target
  /-- The fault latch. -/
  fault : FaultLatch
  /-- The stop cause. -/
  stopCause : StopCause
  /-- The phase timer. -/
  phase : Timer
  /-- The ms spent in CYCLE_WAIT so far. -/
  waited : Nat
  /-- The supply settle time in ms. -/
  supplySettle : Nat
  /-- The spin timeout in ms. -/
  spinTimeout : Nat
  /-- The unload time in ms. -/
  unloadTime : Nat
  /-- The spin-down time in ms. -/
  spinDown : Nat
  /-- The cycle delay in ms. -/
  cycleDelay : Nat
  deriving DecidableEq, Repr

/-- The Charge Gauge (R125, R126). -/
structure Gauge where
  /-- Q in µAh. -/
  q : Nat
  /-- The residue in µA·ms. -/
  residue : Int
  /-- S in permille. -/
  s : Nat
  /-- P, the reported permille. -/
  p : Nat
  /-- The uncertain flag. -/
  uncertain : Bool
  /-- Estimate pending. -/
  estimatePending : Bool
  /-- Snap pending. -/
  snapPending : Bool
  /-- The last current in µA. -/
  current : Int
  /-- The last voltage in mV. -/
  volts : Nat
  /-- The current sum: the latest currents in µA, oldest first. -/
  currents : List Int
  /-- The empty run. -/
  emptyRun : Nat
  /-- The full run. -/
  fullRun : Nat
  /-- The slew count. -/
  slewCount : Nat
  /-- The running period length in ms. -/
  runningLength : Nat
  /-- The gauge timer. -/
  timer : Timer
  /-- The gauge period T in ms. -/
  period : Nat
  /-- The current scale K in µA per code. -/
  scale : Nat
  /-- The capacity in mAh. -/
  capacity : Nat
  /-- The empty voltage in mV. -/
  vEmpty : Nat
  /-- The full voltage in mV. -/
  vFull : Nat
  /-- The taper current in mA. -/
  taper : Nat
  /-- The slew step in permille. -/
  slewStep : Nat
  deriving DecidableEq, Repr

/-- The power modes (R151, R152). -/
inductive PowerMode
  | run
  | doze
  | retain
  deriving DecidableEq, Repr

/-- The battery levels (R165). -/
inductive Level
  | ample
  | low
  | critical
  deriving DecidableEq, Repr

/-- The kinds of start (R159). -/
inductive StartKind
  | cold
  | warm
  | request
  deriving DecidableEq, Repr

/-- The Supply Monitor (R151, R152, R156, R164). -/
structure Supply where
  /-- The power mode. -/
  mode : PowerMode
  /-- Whether the supply is present, as SPRS last read. -/
  present : Bool
  /-- The battery level. -/
  level : Level
  /-- The LOST flag. -/
  lost : Bool
  /-- The start kind. -/
  startKind : StartKind
  /-- The doze timer. -/
  dozeTimer : Timer
  /-- R_park in µAh. -/
  rPark : Nat
  /-- R_entry in µAh. -/
  rEntry : Nat
  /-- H in µAh. -/
  hyst : Nat
  /-- The doze delay in seconds. -/
  dozeDelay : Nat
  /-- Whether the retained store is marked valid. -/
  storeValid : Bool
  deriving DecidableEq, Repr

/-- The two counts of the Time Base (R168). -/
structure Clock where
  /-- The run seconds. -/
  runSeconds : Nat
  /-- The drive clock. -/
  driveClock : Nat
  deriving DecidableEq, Repr

/-- The eleven causes (R179), in the order of their numbers. -/
inductive Cause
  | fall
  | battery
  | restarted
  | expired
  | supply
  | knock
  | mechanism
  | sealed
  | settled
  | sensor
  | freed
  deriving DecidableEq, Repr

/-- The Attention Unit (R179, R181, R184): bit n of the pending set stands for cause number n, as the manual numbers it. -/
structure Attention where
  /-- The pending set. -/
  pending : BitVec 11
  /-- The mask. -/
  mask : Nat
  /-- The doze flag. -/
  dozeFlag : Bool
  deriving DecidableEq, Repr

/-- The link states (R190). -/
inductive LinkState
  | idle
  | receiving
  | forming
  | sending
  | waking
  deriving DecidableEq, Repr

/-- What a write that ends is judged to be (R193, R194). -/
inductive Verdict
  | empty
  | malformed
  | unknown
  | request (code : Byte) (payload : List Byte)
  deriving DecidableEq, Repr

/-- The Link Port (R190, R195). `forming`, `ticked` and `waiting` are what R195 implies and R190 does not list: the answer whose
content is fixed and not yet readable, whether the tick that ends its forming has come, and the acknowledged transfer that waits
with the clock stretched. `ignored` is what R199 implies: a transfer is still on the bus that the port takes no part in (log
entry 3). `held` keeps the commands of the bridge that such a stretch holds up (log entry 23). `acked` and `sent` are the model's
record of what the port put on the link (log entry 7). -/
structure Link where
  /-- The link state. -/
  state : LinkState
  /-- The request buffer. -/
  buffer : List Byte
  /-- The byte count. -/
  count : Nat
  /-- The answer buffer. -/
  answer : Option Answer
  /-- The answer being formed. -/
  forming : Option Answer
  /-- Whether a tick has come since the write that is being answered ended. -/
  ticked : Bool
  /-- The transfer that waits for the forming to end. -/
  waiting : Option Dir
  /-- The commands of the bridge that wait in FORMING for its end, the first of them first. -/
  held : List Instr
  /-- The target address. -/
  address : BitVec 7
  /-- Whether the rest of the transfer on the bus is ignored until the next start condition (R199). -/
  ignored : Bool
  /-- Whether the last address byte was acknowledged. -/
  acked : Bool
  /-- The bytes the bridge was sent in the last read transfer. -/
  sent : List Byte
  deriving DecidableEq, Repr

/-- The levels of the input lines no block keeps a state for: DRDY (R121) and LCLR_N (R199). -/
structure Pins where
  /-- DRDY: `true` asserted. -/
  drdy : Bool
  /-- LCLR_N: `true` high. -/
  lclrN : Bool
  deriving DecidableEq, Repr

/-- The state of the part, its lines and the queue of commands that wait. -/
structure State where
  /-- The Survey Table. -/
  table : SurveyTable
  /-- The Write Check Unit's grant table. -/
  grants : GrantTable
  /-- The Motion Guard. -/
  guard : Guard
  /-- The Mechanism Sequencer. -/
  seq : Sequencer
  /-- The Charge Gauge. -/
  gauge : Gauge
  /-- The Supply Monitor. -/
  supply : Supply
  /-- The Time Base. -/
  clock : Clock
  /-- The Attention Unit. -/
  attention : Attention
  /-- The Link Port. -/
  link : Link
  /-- The input lines. -/
  pins : Pins
  /-- How many free values the machine has used (the model's own counter, log entry 5). -/
  freeCount : Nat
  /-- The commands that wait, first in, first out. -/
  pending : List Instr
  deriving DecidableEq, Repr

/-- Why a step stops with a fault: no rule of the manual stops the part, so there is no such reason. -/
inductive Fault
  deriving DecidableEq, Repr

/-- Why a command is refused. -/
inductive Refusal
  /-- Raised by an arm of exec whose command has no meaning in the model yet; safe: nothing can be proved of what the
  command does. No arm raises it. -/
  | notModelled (mnemonic : String)
  deriving DecidableEq, Repr

/-- The target address ADSEL selects (R191): low 0x2C, high 0x2D. -/
def targetAddress (adsel : Bool) : BitVec 7 := if adsel then 0x2D else 0x2C

/-- The state a cold start leaves (R27, R52, R101, R123, R148, R160, R174, R189, R200), for the levels SPRS and ADSEL read at
it. The lines, the queue and the model's counter are the world's and stand as given. -/
def State.cold (sprs adsel : Bool) (pins : Pins) (freeCount : Nat) (pending : List Instr) : State where
  table := { entries := Vector.replicate 64 Entry.cleared, mediaLimit := 4294967295, policy := .allow }
  grants := { slots := Vector.replicate 8 none, generations := Vector.replicate 8 0, timeout := 2000 }
  guard :=
    { state := .calm, run := 0, settle := none, fallMs := 0,
      episode := { kind := .none, isOpen := false, peak := 0, duration := 0, falls := 0 },
      falls := 0, knocks := 0, transfer := .none, setupPending := true, misses := 0, lastSample := none,
      sampleTimer := some 2, samplePeriod := 2, ff := 77, fi := 1536, nf := 12, settleTime := 500,
      blindPolicy := .proceed }
  seq :=
    { state := .cycleWait, target := .off, fault := .clear, stopCause := .none, phase := some 1000, waited := 0,
      supplySettle := 50, spinTimeout := 4000, unloadTime := 300, spinDown := 1200, cycleDelay := 1000 }
  gauge :=
    { q := 0, residue := 0, s := 0, p := 0, uncertain := true, estimatePending := true, snapPending := false,
      current := 0, volts := 0, currents := [], emptyRun := 0, fullRun := 0, slewCount := 0, runningLength := 250,
      timer := some 250, period := 250, scale := 100, capacity := 3400, vEmpty := 3300, vFull := 4150, taper := 100,
      slewStep := 5 }
  supply :=
    { mode := .run, present := sprs, level := .critical, lost := true, startKind := .cold, dozeTimer := none,
      rPark := 20000, rEntry := 5000, hyst := 10000, dozeDelay := 5, storeValid := true }
  clock := { runSeconds := 0, driveClock := 0 }
  attention := { pending := 4, mask := 0, dozeFlag := false }
  link :=
    { state := .idle, buffer := [], count := 0, answer := none, forming := none, ticked := false,
      waiting := none, held := [], address := targetAddress adsel, ignored := false, acked := false, sent := [] }
  pins := pins
  freeCount := freeCount
  pending := pending

/-- The machine right after reset: a cold start with SPRS low, ADSEL low, DRDY released and LCLR_N high (log entry 1), and no
command waiting. -/
def State.reset : State := State.cold false false { drdy := false, lclrN := true } 0 []

end Sys2Proof.Machine
end

