-- ==== Sys2Proof/Decode.lean ====
section
/-! DEFINITION. The words of the table of operations: spec/opcode_table.json gives no row any bits, so no word spells a
command. The commands arrive as frames on the link and as events at the part's lines, timers and supplies. -/

namespace Sys2Proof

/-- The command an opcode-table word spells: none, since no row of the table gives bits. -/
def decodeTableWord (_nbits _w : Nat) : Option Instr := none

end Sys2Proof
end

