-- ==== Sys2Proof/Machine/Codes.lean ====
section
/-! DEFINITION. The codes of section 10.6: the request codes (R201), the outcome codes (R202), the encodings of named values
(R203) and the big-endian fields of the frames (R192). -/

namespace Sys2Proof.Machine

/-- A one-byte field. -/
def be1 (n : Nat) : List Byte := [BitVec.ofNat 8 n]

/-- A two-byte field, most significant byte first (R192). -/
def be2 (n : Nat) : List Byte := [BitVec.ofNat 8 (n / 256), BitVec.ofNat 8 n]

/-- A four-byte field, most significant byte first (R192). -/
def be4 (n : Nat) : List Byte :=
  [BitVec.ofNat 8 (n / 16777216), BitVec.ofNat 8 (n / 65536), BitVec.ofNat 8 (n / 256), BitVec.ofNat 8 n]

/-- A signed two-byte field in two's complement (R203). -/
def beSigned2 (i : Int) : List Byte := be2 (i % 65536).toNat

/-- A flag or a yes/no field: 1 means set, yes or asserted (R203). -/
def flag (b : Bool) : Nat := if b then 1 else 0

/-- The value of a two-byte field. -/
def nat2 (b1 b0 : Byte) : Nat := b1.toNat * 256 + b0.toNat

/-- The value of a four-byte field. -/
def nat4 (b3 b2 b1 b0 : Byte) : Nat := ((b3.toNat * 256 + b2.toNat) * 256 + b1.toNat) * 256 + b0.toNat

/-- R202: the byte of each outcome. -/
def Code.byte : Code → Byte
  | .ok => 0x00
  | .granted => 0x01
  | .split => 0x02
  | .hold => 0x03
  | .denied => 0x04
  | .full => 0x05
  | .notFound => 0x10
  | .exists => 0x11
  | .overlap => 0x12
  | .misaligned => 0x13
  | .outOfRange => 0x14
  | .badState => 0x15
  | .held => 0x16
  | .reserve => 0x17
  | .locked => 0x18
  | .badArg => 0x19
  | .stale => 0x1A
  | .malformed => 0x20
  | .unknown => 0x21
  | .noRequest => 0x22

/-- R192: the bytes of an answer frame. -/
def Answer.frame (a : Answer) : List Byte := a.code.byte :: BitVec.ofNat 8 a.payload.length :: a.payload

/-- An OK answer. -/
def okAnswer (payload : List Byte) : Answer := { code := .ok, payload := payload }

/-- A refusal, with no payload (R201). -/
def refusal (c : Code) : Answer := { code := c, payload := [] }

/-- R203. -/
def EntryState.code : EntryState → Nat
  | .free => 0
  | .opened => 1
  | .closing => 2
  | .sealed => 3
  | .retiring => 4

/-- R203. -/
def GuardState.code : GuardState → Nat
  | .calm => 0
  | .watch => 1
  | .falling => 2
  | .settle => 3
  | .blind => 4

/-- R203. -/
def SeqState.code : SeqState → Nat
  | .off => 0
  | .powering => 1
  | .spinning => 2
  | .ready => 3
  | .draining => 4
  | .unloading => 5
  | .stopping => 6
  | .cycleWait => 7

/-- R203. -/
def Target.code : Target → Nat
  | .off => 0
  | .on => 1

/-- R203. -/
def FaultLatch.code : FaultLatch → Nat
  | .clear => 0
  | .spinTimeout => 1
  | .readyLost => 2

/-- R203. -/
def StopCause.code : StopCause → Nat
  | .none => 0
  | .target => 1
  | .battery => 2
  | .fall => 3
  | .spinTimeout => 4
  | .readyLost => 5
  | .restart => 6
  | .supplyLoss => 7

/-- R203. -/
def Level.code : Level → Nat
  | .ample => 0
  | .low => 1
  | .critical => 2

/-- R203 gives RUN 0 and DOZE 1; no request is taken in RETAIN, so its value is never reported. -/
def PowerMode.code : PowerMode → Nat
  | .run => 0
  | .doze => 1
  | .retain => 2

/-- R203. -/
def StartKind.code : StartKind → Nat
  | .cold => 0
  | .warm => 1
  | .request => 2

/-- R203. -/
def EpisodeKind.code : EpisodeKind → Nat
  | .none => 0
  | .fall => 1
  | .knock => 2

/-- R203. -/
def SampleClass.code : SampleClass → Nat
  | .low => 0
  | .normal => 1
  | .impact => 2

/-- R8, R206: ALLOW 0, DENY 1. -/
def UnmappedPolicy.code : UnmappedPolicy → Nat
  | .allow => 0
  | .deny => 1

/-- R82, R206: PROCEED 0, HOLD 1. -/
def BlindPolicy.code : BlindPolicy → Nat
  | .proceed => 0
  | .hold => 1

/-- The number of each cause (R179). -/
def Cause.number : Cause → Nat
  | .fall => 0
  | .battery => 1
  | .restarted => 2
  | .expired => 3
  | .supply => 4
  | .knock => 5
  | .mechanism => 6
  | .sealed => 7
  | .settled => 8
  | .sensor => 9
  | .freed => 10

/-- The level of each cause (R179). -/
def Cause.level : Cause → Nat
  | .fall => 7
  | .battery => 6
  | .restarted => 6
  | .expired => 5
  | .supply => 5
  | .knock => 4
  | .mechanism => 4
  | .sealed => 3
  | .settled => 3
  | .sensor => 2
  | .freed => 2

/-- The eleven causes. -/
def Cause.all : List Cause :=
  [.fall, .battery, .restarted, .expired, .supply, .knock, .mechanism, .sealed, .settled, .sensor, .freed]

/-- The bit that stands for a cause in a cause set (R203). -/
def Cause.bit (c : Cause) : BitVec 11 := 1#11 <<< c.number

/-- The request codes of R201. -/
def requestCodes : List Byte :=
  [0x01, 0x02, 0x03, 0x04, 0x05, 0x06, 0x07, 0x10, 0x11, 0x12, 0x13, 0x14, 0x15, 0x16, 0x17, 0x18, 0x19, 0x1A, 0x1B, 0x1C,
   0x1D, 0x20, 0x21, 0x22, 0x30, 0x38, 0x39, 0x40, 0x41]

/-- R192: the bytes of a request frame. -/
def requestFrame (code : Byte) (payload : List Byte) : List Byte :=
  code :: BitVec.ofNat 8 payload.length :: payload

/-- R193: what the port stores of a write. -/
def storedBytes (bytes : List Byte) : List Byte := bytes.take Config.bufferBytes

/-- R193, R190: the saturating byte count of a write. -/
def countedBytes (bytes : List Byte) : Nat := min 255 bytes.length

/-- R194: how a write is judged at its end, from the stored bytes and the byte count. -/
def judge (buffer : List Byte) (count : Nat) : Verdict :=
  if count = 0 then .empty
  else
    match buffer with
    | code :: len :: payload =>
      if count < 2 ∨ Config.maxPayload < len.toNat ∨ count ≠ 2 + len.toNat then .malformed
      else if requestCodes.contains code then .request code payload
      else .unknown
    | _ => .malformed

/-- R193, R194: how a write of these data bytes is judged. -/
def judgeWrite (bytes : List Byte) : Verdict := judge (storedBytes bytes) (countedBytes bytes)

end Sys2Proof.Machine
end

