-- ==== Sys2Proof/Machine/Operands.lean ====
section
/-! DEFINITION. The operands of the commands: the fields of every request payload of R201, the samples of the private bus
(R75, R83, R85), and the windows' arithmetic (R5, R6). A reader that answers `none` met a payload whose length differs from
the length its fields call for, which the request's owner refuses BAD-ARG. -/

namespace Sys2Proof.Machine

/-! ## Windows (R5, R6) -/

/-- R5: the length in blocks. -/
def Window.length (w : Window) : Nat := 2 ^ (w.cls + 4)

/-- R5: the last block. -/
def Window.last (w : Window) : Nat := w.base + w.length - 1

/-- R5: the base is a whole multiple of the length. -/
def Window.aligned (w : Window) : Bool := w.base % w.length == 0

/-- Whether a block lies in the window. -/
def Window.contains (w : Window) (block : Nat) : Bool := decide (w.base ≤ block) && decide (block ≤ w.last)

/-- R6: two windows overlap when they share at least one block. -/
def Window.overlaps (w v : Window) : Bool := decide (w.base ≤ v.last) && decide (v.base ≤ w.last)

/-! ## Request payloads (R201) -/

/-- No payload. -/
def readNothing : List Byte → Option Unit
  | [] => some ()
  | _ => none

/-- One byte. -/
def readByte : List Byte → Option Nat
  | [b] => some b.toNat
  | _ => none

/-- A two-byte field alone: a survey number, a cause set or a charge. -/
def readTwo : List Byte → Option Nat
  | [b1, b0] => some (nat2 b1 b0)
  | _ => none

/-- A four-byte field alone: a block or a clock value. -/
def readFour : List Byte → Option Nat
  | [b3, b2, b1, b0] => some (nat4 b3 b2 b1 b0)
  | _ => none

/-- SET-PARAM: a parameter number and a value. -/
def readParamValue : List Byte → Option (Nat × Nat)
  | [n, b3, b2, b1, b0] => some (n.toNat, nat4 b3 b2 b1 b0)
  | _ => none

/-- A label of stated length: the stated length and the bytes sent must agree (R10). -/
def readLabel : List Byte → Option (List Byte)
  | n :: label => if label.length = n.toNat then some label else none
  | [] => none

/-- OPEN-SURVEY: survey number, first window and label. -/
def readOpen : List Byte → Option (Nat × Window × List Byte)
  | n1 :: n0 :: b3 :: b2 :: b1 :: b0 :: c :: rest =>
    (readLabel rest).map fun label => (nat2 n1 n0, { base := nat4 b3 b2 b1 b0, cls := c.toNat }, label)
  | _ => none

/-- ADD-WINDOW: survey number and window. -/
def readAdd : List Byte → Option (Nat × Window)
  | [n1, n0, b3, b2, b1, b0, c] => some (nat2 n1 n0, { base := nat4 b3 b2 b1 b0, cls := c.toNat })
  | _ => none

/-- RENAME: survey number and label. -/
def readRename : List Byte → Option (Nat × List Byte)
  | n1 :: n0 :: rest => (readLabel rest).map fun label => (nat2 n1 n0, label)
  | _ => none

/-- SET-HOLD: survey number and seconds. -/
def readHold : List Byte → Option (Nat × Nat)
  | [n1, n0, b3, b2, b1, b0] => some (nat2 n1 n0, nat4 b3 b2 b1 b0)
  | _ => none

/-- A list of windows of five bytes each. -/
def readWindows : List Byte → Option (List Window)
  | [] => some []
  | b3 :: b2 :: b1 :: b0 :: c :: rest =>
    (readWindows rest).map fun ws => { base := nat4 b3 b2 b1 b0, cls := c.toNat } :: ws
  | _ => none

/-- The operands of RESTORE (R71). -/
abbrev RestoreArgs := Nat × Nat × Nat × Nat × List Byte × List Window

/-- RESTORE: survey number, opened stamp, sealed stamp, hold seconds, label and windows; the payload length is the one the
label length and the window count call for (R71). -/
def readRestore : List Byte → Option RestoreArgs
  | n1 :: n0 :: o3 :: o2 :: o1 :: o0 :: s3 :: s2 :: s1 :: s0 :: h3 :: h2 :: h1 :: h0 :: n :: rest =>
    match rest.drop n.toNat with
    | w :: windows =>
      if windows.length = 5 * w.toNat then
        (readWindows windows).map fun ws =>
          (nat2 n1 n0, nat4 o3 o2 o1 o0, nat4 s3 s2 s1 s0, nat4 h3 h2 h1 h0, rest.take n.toNat, ws)
      else none
    | [] => none
  | _ => none

/-- CHECK-WRITE: first block and count. -/
def readCheck : List Byte → Option (Nat × Nat)
  | [b3, b2, b1, b0, n1, n0] => some (nat4 b3 b2 b1 b0, nat2 n1 n0)
  | _ => none

/-- WRITE-DONE: tag and result. -/
def readDone : List Byte → Option (Nat × Nat)
  | [tag, result] => some (tag.toNat, result.toNat)
  | _ => none

/-! ## The private bus (R75, R83, R85) -/

/-- What the port does on the private bus, in the order of a transfer (R75). -/
inductive BusAction
  /-- A start condition. -/
  | start
  /-- A repeated start condition. -/
  | repeatedStart
  /-- An address phase: the 7-bit address and the direction. -/
  | address (sensor : BitVec 7) (dir : Dir)
  /-- A byte written to the sensor. -/
  | write (byte : Byte)
  /-- A data byte received, which the port acknowledges or not. -/
  | receive (acknowledge : Bool)
  /-- A stop condition. -/
  | stop
  deriving DecidableEq, Repr

/-- R75: what the port puts on the bus in a whole transfer. -/
def Transfer.actions : Transfer → List BusAction
  | .none => []
  | .setup => [.start, .address Config.sensorAddress .write] ++ Config.setupBytes.map .write ++ [.stop]
  | .read =>
    [.start, .address Config.sensorAddress .write, .write Config.readIndex, .repeatedStart,
      .address Config.sensorAddress .read] ++ List.replicate 5 (.receive true) ++ [.receive false, .stop]

/-- How a read is judged at its completion (R75). -/
def readFailed (writeAddress index readAddress : Bool) (data : List Byte) : Bool :=
  !(writeAddress && index && readAddress) || decide (data.length < 6)

/-- R75: a setup is good when the address and all three bytes are acknowledged. -/
def setupGood (address first second third : Bool) : Bool := address && first && second && third

/-- R75: an axis is a signed 16-bit big-endian value divided by 16 and rounded down. -/
def axis (high low : Byte) : Int := (high ++ low).toInt / 16

/-- R83: the magnitude squared. -/
def magnitude2 (x y z : Int) : Nat := (x * x + y * y + z * z).toNat

/-- R85: the class of a sample, from its m2 and the thresholds in force. -/
def classify (ff fi m2 : Nat) : SampleClass :=
  if fi * fi < m2 then .impact
  else if m2 < ff * ff then .low
  else .normal

/-- R75, R83, R85: the sample a read's six data bytes hold, under the thresholds in force. -/
def readSample (ff fi : Nat) : List Byte → Option Sample
  | xh :: xl :: yh :: yl :: zh :: zl :: _ =>
    let x := axis xh xl
    let y := axis yh yl
    let z := axis zh zl
    some { x := x, y := y, z := z, m2 := magnitude2 x y z, cls := classify ff fi (magnitude2 x y z) }
  | _ => none

/-- One bit of the square root below: keep the bit where the square still does not exceed the number. -/
def rootBit (m r b : Nat) : Nat := if (r + 2 ^ b) * (r + 2 ^ b) ≤ m then r + 2 ^ b else r

/-- R83: the integer square root rounded down, for every m2 below 2 to the power 32. -/
def integerRoot (m : Nat) : Nat :=
  [15, 14, 13, 12, 11, 10, 9, 8, 7, 6, 5, 4, 3, 2, 1, 0].foldl (rootBit m) 0

end Sys2Proof.Machine
end

