-- ==== Sys2Proof/Machine/Flags.lean ====
section
/-! DEFINITION. What the manual computes and does not store: entry and pool counts (R2, R5, R9), the range lookup (R18), the
holds (R63), critical-on-battery, off demand, the power-up precondition, the doze condition and the thresholds (R106, R107,
R151, R155, R164), the output lines (R102, R182) and the derived gauge figures (R132, R133, R143). -/

namespace Sys2Proof.Machine

/-! ## Timers -/

/-- R176, R177: the timer has reached the end of its present run, and its expiry waits to be taken. A timer stopped or started
anew since has not, so the expiry of its former run does not happen. -/
def timerEnded (t : Timer) : Bool := t == some 0

/-! ## Survey Table and pool -/

/-- The slots of the Survey Table in slot order. -/
def slotList : List (Fin 64) := List.finRange 64

/-- The record in a slot. -/
def State.entry (s : State) (i : Fin 64) : Entry := s.table.entries[i]

/-- A live entry is in any state but FREE. -/
def Entry.live (e : Entry) : Bool := e.state != .free

/-- OPEN and CLOSING entries are counted in n_open (R9). -/
def Entry.counted (e : Entry) : Bool := e.state == .opened || e.state == .closing

/-- R9: the number of entries in OPEN or CLOSING. -/
def State.nOpen (s : State) : Nat := s.table.entries.toList.countP Entry.counted

/-- R5: the pool slots held by entries. -/
def State.heldSlots (s : State) : Nat := (s.table.entries.toList.map fun e => e.windows.length).sum

/-- R5: the free slots of the pool. -/
def State.freePool (s : State) : Nat := Config.poolSlots - s.heldSlots

/-- The windows of live entries, each with its slot and its index. -/
def State.liveWindows (s : State) : List (Fin 64 × Nat × Window) :=
  slotList.flatMap fun i =>
    if (s.entry i).live then (s.entry i).windows.zipIdx.map fun (w, k) => (i, k, w) else []

/-- R6: whether a window overlaps a window of a live entry. -/
def State.overlapsLive (s : State) (w : Window) : Bool := s.liveWindows.any fun (_, _, v) => w.overlaps v

/-- R18: the range lookup. -/
def State.lookup (s : State) (block : Nat) : Lookup :=
  match s.liveWindows.find? fun (_, _, w) => w.contains block with
  | some (i, k, w) => .covered i k w
  | none => .uncovered ((s.liveWindows.map fun (_, _, w) => w.base).filter fun b => decide (block < b)).min?

/-- R10: the live entry that holds a survey number. -/
def State.findSurvey (s : State) (number : Nat) : Option (Fin 64) :=
  slotList.find? fun i => (s.entry i).live && (s.entry i).number == some number

/-- R3: the lowest FREE slot. -/
def State.lowestFree (s : State) : Option (Fin 64) := slotList.find? fun i => (s.entry i).state == .free

/-! ## Grants -/

/-- Whether a slot of the grant table holds a grant that names this entry. -/
def Grant.names (i : Fin 64) : Option Grant → Bool
  | some g => g.entry == some i
  | none => false

/-- R2: the outstanding grants count of an entry. -/
def State.outstanding (s : State) (i : Fin 64) : Nat := s.grants.slots.toList.countP (Grant.names i)

/-- Whether any outstanding grant names an entry. -/
def State.named (s : State) (i : Fin 64) : Bool := s.grants.slots.toList.any (Grant.names i)

/-- R47: whether the grant table is empty; unmapped grants count as mapped ones do. -/
def State.grantsEmpty (s : State) : Bool := s.grants.slots.toList.all Option.isNone

/-- The outstanding grants in slot order (R29). -/
def State.grantList (s : State) : List Grant := s.grants.slots.toList.filterMap id

/-- R40: the lowest-numbered free slot of the grant table. -/
def State.lowestFreeGrant (s : State) : Option (Fin 8) :=
  (List.finRange 8).find? fun k => s.grants.slots[k].isNone

/-! ## Holds (R63) -/

/-- R63: the hold remaining of a deadline, in seconds. -/
def holdRemaining (deadline : Option Nat) (runSeconds : Nat) : Nat :=
  match deadline with
  | some d => d - runSeconds
  | none => 0

/-- R63: a hold is in force while its deadline is present and greater than the run seconds. -/
def holdInForce (deadline : Option Nat) (runSeconds : Nat) : Bool :=
  match deadline with
  | some d => decide (runSeconds < d)
  | none => false

/-- R64, R73: the deadline that seconds from now give, clamped at the top. -/
def holdDeadline (runSeconds seconds : Nat) : Nat := min (runSeconds + seconds) Config.top32

/-! ## Guard, level and sequencer conditions -/

/-- R82: the guard is CALM, or BLIND under PROCEED. -/
def Guard.permits (g : Guard) : Bool :=
  g.state == .calm || (g.state == .blind && g.blindPolicy == .proceed)

/-- R151: the level is CRITICAL and the supply is absent. -/
def State.critical (s : State) : Bool := s.supply.level == .critical && !s.supply.present

/-- R106: the target is OFF, or critical-on-battery holds. -/
def State.offDemand (s : State) : Bool := s.seq.target == .off || s.critical

/-- R107: the power-up precondition. -/
def State.precondition (s : State) : Bool :=
  s.seq.target == .on && !s.offDemand && s.guard.permits && s.seq.fault == .clear

/-- R102: the powered states. -/
def SeqState.powered : SeqState → Bool
  | .off | .cycleWait => false
  | .powering | .spinning | .ready | .draining | .unloading | .stopping => true

/-- R155: the link is idle, in the sense of the doze condition, in IDLE (R190). -/
def Link.isIdle (l : Link) : Bool := l.state == .idle

/-- R155: the doze condition. -/
def State.dozeCondition (s : State) : Bool :=
  s.supply.mode == .run && !s.supply.present && s.seq.state == .off && s.grantsEmpty && s.guard.state == .calm &&
    s.link.isIdle

/-- R164: the LOW threshold in µAh. -/
def State.threshold (s : State) : Nat := s.supply.rPark + (s.nOpen + 1) * s.supply.rEntry

/-- R165: the level an evaluation finds, from the level before it, Q, the threshold, R_park, H and the empty correction. -/
def nextLevel (before : Level) (q thr rPark hyst : Nat) (emptyCorrection : Bool) : Level :=
  match before with
  | .ample =>
    if emptyCorrection || decide (q < rPark) then .critical
    else if q < thr then .low
    else .ample
  | .low =>
    if emptyCorrection || decide (q < rPark) then .critical
    else if thr + hyst ≤ q then .ample
    else .low
  | .critical =>
    if emptyCorrection then .critical
    else if thr + hyst ≤ q then .ample
    else if rPark + hyst ≤ q then .low
    else .critical

/-! ## Lines and attention -/

/-- R102: the levels a sequencer state drives on DSUP, DSPN and DUNL (`true`: asserted). -/
def SeqState.lines : SeqState → Bool × Bool × Bool
  | .off => (false, false, false)
  | .powering => (true, false, false)
  | .spinning => (true, true, false)
  | .ready => (true, true, false)
  | .draining => (true, true, false)
  | .unloading => (true, true, true)
  | .stopping => (true, false, true)
  | .cycleWait => (false, false, false)

/-- R102, R122: the lines as driven; RETAIN releases them. -/
def State.lines (s : State) : Bool × Bool × Bool :=
  if s.supply.mode = .retain then (false, false, false) else s.seq.state.lines

/-- Whether a cause is pending (R179). -/
def State.isPending (s : State) (c : Cause) : Bool := s.attention.pending &&& c.bit != 0

/-- R179: the highest pending level, or 0. -/
def highestLevel (pending : BitVec 11) : Nat :=
  ((Cause.all.filter fun c => pending &&& c.bit != 0).map Cause.level).foldl max 0

/-- R182: ATTN_N is asserted while FALL is pending or a pending cause has a level above the mask; RETAIN releases it. -/
def State.attnAsserted (s : State) : Bool :=
  s.supply.mode != .retain &&
    (s.isPending .fall || Cause.all.any fun c => s.isPending c && decide (s.attention.mask < c.level))

/-! ## Gauge figures -/

/-- R125: Cf in µAh. -/
def Gauge.cf (g : Gauge) : Nat := g.capacity * 1000

/-- R132: S, from Q and Cf. -/
def stateOfCharge (q cf : Nat) : Nat := q * 1000 / cf

/-- R133: the average current in µA; 0 when the list is empty. -/
def Gauge.average (g : Gauge) : Int :=
  if g.currents.isEmpty then 0 else g.currents.sum.tdiv g.currents.length

/-- R143: time to reserve in minutes. -/
def timeToReserve (average : Int) (q rPark : Nat) : Nat :=
  if 0 ≤ average then 65535
  else if q ≤ rPark then 0
  else min 65534 ((q - rPark) * 60 / average.natAbs)

/-- R195: the clock is stretched while an acknowledged transfer waits in FORMING. -/
def Link.stretched (l : Link) : Bool := l.state == .forming && l.waiting.isSome

/-- R195: the forming ends at the first tick after the end of the write. -/
def Link.formingEnds (l : Link) : Bool := l.state == .forming && l.ticked

/-- R198, R199: the rest of the transfer on the bus is ignored: in WAKING, and after a link clear that interrupted it. -/
def Link.ignores (l : Link) : Bool := l.ignored || l.state == .waking

/-- A transfer addressed to the part is on the bus (R190, R195), or one whose rest the port ignores already. -/
def Link.inTransfer (l : Link) : Bool :=
  match l.state with
  | .receiving | .sending | .waking => true
  | .forming => l.waiting.isSome
  | .idle => l.ignored

end Sys2Proof.Machine
end

