-- ==== Sys2Proof/Machine/Ops.lean ====
section
/-! DEFINITION. The shared operations: the updates of one block, raising a cause (R180), the way up and the way down of the
sequencer (R104 to R116), the level evaluation (R165), the guard's states and episodes (R80, R87, R95), the custody of an
entry (R1, R46, R56), entering and leaving DOZE (R98, R156, R157), and how the link takes a transfer (R191 to R198). -/

namespace Sys2Proof.Machine

/-! ## One block at a time -/

/-- Update the Survey Table. -/
def State.onTable (f : SurveyTable → SurveyTable) (s : State) : State := { s with table := f s.table }

/-- Update the grant table. -/
def State.onGrants (f : GrantTable → GrantTable) (s : State) : State := { s with grants := f s.grants }

/-- Update the Motion Guard. -/
def State.onGuard (f : Guard → Guard) (s : State) : State := { s with guard := f s.guard }

/-- Update the Mechanism Sequencer. -/
def State.onSeq (f : Sequencer → Sequencer) (s : State) : State := { s with seq := f s.seq }

/-- Update the Charge Gauge. -/
def State.onGauge (f : Gauge → Gauge) (s : State) : State := { s with gauge := f s.gauge }

/-- Update the Supply Monitor. -/
def State.onSupply (f : Supply → Supply) (s : State) : State := { s with supply := f s.supply }

/-- Update the Time Base. -/
def State.onClock (f : Clock → Clock) (s : State) : State := { s with clock := f s.clock }

/-- Update the Attention Unit. -/
def State.onAttention (f : Attention → Attention) (s : State) : State := { s with attention := f s.attention }

/-- Update the Link Port. -/
def State.onLink (f : Link → Link) (s : State) : State := { s with link := f s.link }

/-- Update the input lines. -/
def State.onPins (f : Pins → Pins) (s : State) : State := { s with pins := f s.pins }

/-! ## Attention -/

/-- R180: a raised cause joins the pending set; a cause already pending stays pending, once. -/
def State.raise (c : Cause) (s : State) : State := s.onAttention fun a => { a with pending := a.pending ||| c.bit }

/-! ## Mechanism Sequencer -/

/-- R104, R108: enter POWERING. -/
def Sequencer.toPowering (q : Sequencer) : Sequencer :=
  { q with state := .powering, phase := some q.supplySettle, waited := 0 }

/-- R109: enter SPINNING. -/
def Sequencer.toSpinning (q : Sequencer) : Sequencer :=
  { q with state := .spinning, phase := some q.spinTimeout, waited := 0 }

/-- R104, R110, R112: enter READY or return to it; the phase timer is stopped. -/
def Sequencer.toReady (q : Sequencer) : Sequencer := { q with state := .ready, phase := none, waited := 0 }

/-- R111: enter DRAINING. -/
def Sequencer.toDraining (cause : StopCause) (q : Sequencer) : Sequencer :=
  { q with state := .draining, phase := none, waited := 0, stopCause := cause }

/-- R104, R111 to R113: enter UNLOADING. -/
def Sequencer.toUnloading (cause : StopCause) (q : Sequencer) : Sequencer :=
  { q with state := .unloading, phase := some q.unloadTime, waited := 0, stopCause := cause }

/-- R104, R113, R114: enter STOPPING from UNLOADING, keeping the stop cause. -/
def Sequencer.spinsDown (q : Sequencer) : Sequencer :=
  { q with state := .stopping, phase := some q.spinDown, waited := 0 }

/-- R104, R110, R116: enter STOPPING from POWERING or SPINNING with a stop cause. -/
def Sequencer.toStopping (cause : StopCause) (q : Sequencer) : Sequencer := { q.spinsDown with stopCause := cause }

/-- R114: enter CYCLE_WAIT with waited 0. -/
def Sequencer.toCycleWait (q : Sequencer) : Sequencer :=
  { q with state := .cycleWait, phase := some q.cycleDelay, waited := 0 }

/-- R104, R115: enter OFF. -/
def Sequencer.toOff (q : Sequencer) : Sequencer := { q with state := .off, phase := none, waited := 0 }

/-- R118: a mechanism failure latches its kind, sets the target OFF and is the stop cause. -/
def Sequencer.latch (fault : FaultLatch) (cause : StopCause) (q : Sequencer) : Sequencer :=
  { q with fault := fault, target := .off, stopCause := cause }

/-- R107: in OFF, an evaluation that finds the power-up precondition to hold leaves OFF for POWERING. -/
def State.powerUpCheck (s : State) : State :=
  if s.seq.state = .off ∧ s.precondition = true then s.onSeq Sequencer.toPowering else s

/-- R111, R112: the stop cause of off demand. -/
def State.demandCause (s : State) : StopCause := if s.seq.target = .off then .target else .battery

/-- R111: off demand arising in READY: UNLOADING with the grant table empty, DRAINING otherwise. -/
def State.wayDown (s : State) : State :=
  if s.grantsEmpty then s.onSeq (Sequencer.toUnloading s.demandCause) else s.onSeq (Sequencer.toDraining s.demandCause)

/-- R110: READY is reached; MECHANISM is raised, and then off demand is judged. -/
def State.readyReached (s : State) : State :=
  let t := (s.onSeq Sequencer.toReady).raise .mechanism
  if t.offDemand then t.wayDown else t

/-- R115: CYCLE_WAIT ends: OFF, MECHANISM, and the evaluation of the power-up precondition. -/
def State.offReached (s : State) : State := ((s.onSeq Sequencer.toOff).raise .mechanism).powerUpCheck

/-- R114, R115: enter CYCLE_WAIT; a cycle delay of 0 ends it as part of the same event. -/
def State.enterCycleWait (s : State) : State :=
  let t := s.onSeq Sequencer.toCycleWait
  if t.seq.cycleDelay = 0 then t.offReached else t

/-- R116: the emergency unload the guard asks for. -/
def State.emergencyUnload (s : State) : State :=
  match s.seq.state with
  | .ready | .draining => s.onSeq (Sequencer.toUnloading .fall)
  | .powering | .spinning => s.onSeq (Sequencer.toStopping .fall)
  | .unloading | .stopping | .cycleWait | .off => s

/-- R47, R112: the signal that a removal has left the grant table empty releases a DRAINING sequencer. -/
def State.emptySignal (s : State) : State :=
  if s.seq.state = .draining ∧ s.grantsEmpty = true then s.onSeq (Sequencer.toUnloading s.demandCause) else s

/-! ## Motion Guard -/

/-- R90, R91, R95: a new episode, started by a sample of this m2. -/
def Episode.start (kind : EpisodeKind) (m2 falls : Nat) : Episode :=
  { kind := kind, isOpen := true, peak := m2, duration := 0, falls := falls }

/-- R95: while the episode is open, a sample whose m2 exceeds the peak replaces it. -/
def Episode.note (m2 : Nat) (e : Episode) : Episode := if e.isOpen then { e with peak := max e.peak m2 } else e

/-- R95: the time spent in FALLING is added to the duration, saturating. -/
def Episode.addFall (ms : Nat) (e : Episode) : Episode := { e with duration := min 65535 (e.duration + ms) }

/-- R91, R95: a further entry into FALLING within the open episode, whose kind becomes FALL. -/
def Episode.fallAgain (e : Episode) : Episode := { e with kind := .fall, falls := min 255 (e.falls + 1) }

/-- R80, R94, R99, R100: the open episode is closed; if the guard is in FALLING, the time spent there is added first. -/
def Guard.closeEpisode (g : Guard) : Guard :=
  let e := if g.state = .falling then g.episode.addFall g.fallMs else g.episode
  { g with episode := { e with isOpen := false }, fallMs := 0 }

/-- R77, R98 to R101: what a guard start and the stop before it leave of the Sensor Port and the guard: CALM with setup
pending, no transfer, no miss, no run and no last sample; the sample timer as given. -/
def Guard.restart (sampleTimer : Timer) (g : Guard) : Guard :=
  { g with
    state := .calm, run := 0, settle := none, transfer := .none, setupPending := true, misses := 0,
    lastSample := none, sampleTimer := sampleTimer }

/-- R87, R107: the guard enters a state; a change of it reaches a sequencer in OFF as part of the event. -/
def State.guardEnters (state : GuardState) (s : State) : State :=
  let t := s.onGuard fun g => { g with state := state }
  if s.guard.state = state then t else t.powerUpCheck

/-! ## Survey Table -/

/-- Replace the record in a slot. -/
def State.setEntry (i : Fin 64) (e : Entry) (s : State) : State :=
  s.onTable fun t => { t with entries := t.entries.set i e }

/-- Change the record in a slot. -/
def State.modifyEntry (i : Fin 64) (f : Entry → Entry) (s : State) : State := s.setEntry i (f (s.entry i))

/-- Change every record. -/
def State.mapEntries (f : Fin 64 → Entry → Entry) (s : State) : State :=
  s.onTable fun t => { t with entries := Vector.ofFn fun i => f i t.entries[i] }

/-- R25: set verify-pending. -/
def Entry.mark (e : Entry) : Entry := { e with verify := true }

/-- R25: blocks written rises by the count of a grant done GOOD, saturating. -/
def Entry.addWritten (count : Nat) (e : Entry) : Entry := { e with written := min Config.top32 (e.written + count) }

/-- R25: grants issued rises by 1, saturating. -/
def Entry.addIssued (e : Entry) : Entry := { e with issued := min 65535 (e.issued + 1) }

/-- R25, R48: a jolt marking reaches the entry. -/
def Entry.jolt (e : Entry) : Entry := { e with jolts := min 255 (e.jolts + 1), verify := true }

/-- R48: a jolt marking: every entry named by an outstanding mapped grant, once. -/
def State.joltMarking (s : State) : State := s.mapEntries fun i e => if s.named i then e.jolt else e

/-! ## DOZE -/

/-- R98, R157, R184: the part enters DOZE. -/
def State.enterDoze (s : State) : State :=
  ((s.onSupply fun p => { p with mode := .doze, dozeTimer := none }).onGuard (Guard.restart none)).onAttention
    fun a => { a with dozeFlag := true }

/-- R98, R157: the part leaves DOZE for RUN, and the guard restarts from setup in CALM. -/
def State.leaveDoze (s : State) : State :=
  (s.onSupply fun p => { p with mode := .run }).onGuard fun g => g.restart (some g.samplePeriod)

/-- R156: a change that makes the doze condition hold starts the doze timer; one that makes it fail stops it. -/
def State.dozeFollows (held : Bool) (s : State) : State :=
  if s.dozeCondition = true ∧ held = false then
    s.onSupply fun p => { p with dozeTimer := some (p.dozeDelay * 1000) }
  else if s.dozeCondition = false ∧ held = true then s.onSupply fun p => { p with dozeTimer := none }
  else s

/-- An event at a block in RUN or DOZE, with what follows of it for the doze timer (R155); in RETAIN the part takes no such
event (R158). -/
def State.event (f : State → State) (s : State) : State :=
  if s.supply.mode = .retain then s else (f s).dozeFollows s.dozeCondition

/-! ## Level -/

/-- R157, R122: critical-on-battery ceasing in DOZE while the target is ON leaves DOZE. -/
def State.wakeForPowerUp (s : State) : State :=
  if s.supply.mode = .doze ∧ s.seq.target = .on then s.leaveDoze else s

/-- R106: critical-on-battery is handed to the sequencer, which acts on its arising and its ceasing. -/
def State.handCritical (was : Bool) (s : State) : State :=
  if was = false ∧ s.critical = true then
    match s.seq.state with
    | .ready => s.wayDown
    | .powering | .spinning => s.onSeq (Sequencer.toStopping .battery)
    | .draining | .unloading | .stopping | .cycleWait | .off => s
  else if was = true ∧ s.critical = false then
    match s.seq.state with
    | .draining => if s.offDemand then s else s.onSeq Sequencer.toReady
    | .off => s.wakeForPowerUp.powerUpCheck
    | .powering | .spinning | .ready | .unloading | .stopping | .cycleWait => s
  else s

/-- The level an evaluation of this state finds (R165). -/
def State.judgedLevel (emptyCorrection : Bool) (s : State) : Level :=
  nextLevel s.supply.level s.gauge.q s.threshold s.supply.rPark s.supply.hyst emptyCorrection

/-- R165, R166: an evaluation of the level: a change raises BATTERY, and critical-on-battery is handed on. `was` is
critical-on-battery before the event. -/
def State.evaluate (was emptyCorrection : Bool) (s : State) : State :=
  let level := s.judgedLevel emptyCorrection
  if level = s.supply.level then s.handCritical was
  else ((s.onSupply fun p => { p with level := level }).raise .battery).handCritical was

/-- R9: a change of n_open is followed by an evaluation in the same event. -/
def State.openChanged (s : State) : State := s.evaluate s.critical false

/-! ## Custody of an entry -/

/-- R1: the entry enters FREE: its record is cleared, and with it its windows return to the pool. -/
def State.clearEntry (i : Fin 64) (s : State) : State := s.setEntry i Entry.cleared

/-- R56: the entry enters SEALED from OPEN or CLOSING: the sealed stamp is taken, n_open falls and the level is evaluated; from
CLOSING the cause SEALED is raised. -/
def State.sealEntry (i : Fin 64) (s : State) : State :=
  let fromClosing := (s.entry i).state == .closing
  let t := (s.modifyEntry i fun e => { e with state := .sealed, sealed := some s.clock.driveClock }).openChanged
  if fromClosing then t.raise .sealed else t

/-- R25, R46: after a grant naming the entry was removed: a RETIRING entry left with no grant enters FREE and raises FREED; a
CLOSING entry left with no grant and with verify-pending clear enters SEALED. -/
def State.settleEntry (i : Fin 64) (s : State) : State :=
  if s.named i then s
  else
    match (s.entry i).state with
    | .retiring => (s.clearEntry i).raise .freed
    | .closing => if (s.entry i).verify then s else s.sealEntry i
    | .free | .opened | .sealed => s

/-! ## Grants -/

/-- Set what a slot of the grant table holds. -/
def State.setGrant (k : Fin 8) (g : Option Grant) (s : State) : State :=
  s.onGrants fun t => { t with slots := t.slots.set k g }

/-- R30, R40: issue a grant in a free slot: the generation rises, the tag is formed from it, and the deadline timer starts from
the timeout in force. -/
def State.issueGrant (k : Fin 8) (entry : Option (Fin 64)) (window first count : Nat) (s : State) : State :=
  let gen := s.grants.generations[k] + 1
  (s.onGrants fun t => { t with generations := t.generations.set k gen }).setGrant k
    (some { tag := gen.val * 8 + k.val, entry := entry, window := window, first := first, count := count,
            remaining := s.grants.timeout })

/-- R42, R44, R46, R47: remove the grant in a slot, let `effect` act on the entry it names, settle that entry, and signal the
sequencer if the table is left empty. -/
def State.removeGrant (k : Fin 8) (g : Grant) (effect : Entry → Entry) (s : State) : State :=
  let t := s.setGrant k none
  match g.entry with
  | some i => ((t.modifyEntry i effect).settleEntry i).emptySignal
  | none => t.emptySignal

/-! ## Link Port -/

/-- R200: the link state, buffers and answer of a port at rest. -/
def Link.cleared (l : Link) : Link :=
  { l with
    state := .idle, buffer := [], count := 0, answer := none, forming := none, ticked := false, waiting := none, held := [],
    ignored := false }

/-- R198, R199: a transfer whose rest is ignored ends. -/
def Link.endIgnored (l : Link) : Link :=
  { l with state := if l.state = .waking then .idle else l.state, ignored := false }

/-- R198, R199: an ignored write ends; none of its bytes was acknowledged. -/
def Link.lostWrite (l : Link) : Link := { l.endIgnored with acked := false }

/-- R198, R199: an ignored read of n bytes ends; the released data line gave 0xFF for each. -/
def Link.lostRead (n : Nat) (l : Link) : Link := { l.lostWrite with sent := List.replicate n 0xFF }

/-- R191, R199: a command of the bridge that the link clear finds waiting is passed over, LCLR_N being low: the end of the transfer
that it interrupted, or a transfer whose address is not acknowledged (log entry 23). -/
def Link.passOver (l : Link) (c : Instr) : Link :=
  match c with
  | .addressMatch address _ => { l with acked := false, ignored := decide (address = l.address) }
  | .wakingTransferEnd => l.endIgnored
  | .answerRead n => if l.ignored then l.lostRead n else { l with acked := false }
  | _ => if l.ignored then l.lostWrite else { l with acked := false }

/-- R199: the link clear; the rest of a transfer it interrupts is ignored, and the stretch ends with all that waited behind it. -/
def Link.cut (l : Link) : Link := l.held.foldl Link.passOver { l.cleared with ignored := l.inTransfer }

/-- R195: the forming ends: the answer is placed in the answer buffer, and the link goes to IDLE or to the waiting transfer. -/
def Link.formed (l : Link) : Link :=
  let state := match l.waiting with
    | none => LinkState.idle
    | some .read => .sending
    | some .write => .receiving
  { l with state := state, answer := l.forming, forming := none, ticked := false, waiting := none }

/-- R195: a transfer whose address matches in FORMING is acknowledged, and the clock is held low. -/
def Link.stretch (dir : Dir) (l : Link) : Link := if l.stretched then l else { l with waiting := some dir, acked := true }

/-- R195: a command of the bridge waits behind the stretched clock (log entry 23). -/
def Link.defer (c : Instr) (l : Link) : Link := { l with held := l.held ++ [c] }

/-- R193: the port has received the data bytes of a write: the first discards the answer buffer. -/
def Link.receive (bytes : List Byte) (l : Link) : Link :=
  { l with
    state := .receiving, buffer := storedBytes bytes, count := countedBytes bytes, acked := true,
    answer := if bytes.isEmpty then l.answer else none }

/-- R194, R195: a write has been judged and its answer fixed: the buffer and count are emptied and FORMING begins. -/
def Link.form (a : Answer) (l : Link) : Link :=
  { l with state := .forming, buffer := [], count := 0, forming := some a, ticked := false, waiting := none }

/-- R193: a write ends with no data byte: IDLE, and the answer buffer is kept. -/
def Link.endEmpty (l : Link) : Link := { l with state := .idle, buffer := [], count := 0 }

/-- R196: the NO-REQUEST frame. -/
def noRequestFrame : List Byte := [Code.noRequest.byte, 0]

/-- R196: the bytes sent in a read transfer of n bytes: the frame from its outcome byte, then 0xFF. -/
def sentBytes (answer : Option Answer) (n : Nat) : List Byte :=
  let frame := match answer with
    | some a => a.frame
    | none => noRequestFrame
  frame.take n ++ List.replicate (n - frame.length) 0xFF

/-- R196: a read transfer of n bytes ends: the port returns to IDLE, the answer buffer as it was. -/
def Link.endRead (n : Nat) (l : Link) : Link :=
  { l with state := .idle, acked := true, sent := sentBytes l.answer n }

/-- R196: a read in progress. -/
def Link.beginRead (l : Link) : Link := { l with state := .sending, acked := true }

/-- R198: the address of a transfer is answered NAK and wakes the part from DOZE. -/
def State.wake (s : State) : State :=
  s.leaveDoze.onLink fun l => { l with state := .waking, acked := false }

/-- A transfer of the bridge that ends, given as one command `c` (log entry 3): not acknowledged in RETAIN (R191); the end of a
transfer whose rest is ignored, where one is on the bus (R198, R199), which does `lost`; otherwise a whole transfer: not
acknowledged while LCLR_N is low (R191); in DOZE NAKed, so that it wakes the part, and ended by its stop (R198); in FORMING
stretched, and held until the tick at which the forming ends (R195, log entry 23); in RUN otherwise taken by the port, first
becoming busy through `start` and then doing `rest`. -/
def State.transfer (c : Instr) (dir : Dir) (lost start : Link → Link) (rest : State → State) (s : State) : State :=
  if s.supply.mode = .retain then s.onLink fun l => { l with acked := false }
  else if s.link.ignores then s.event fun t => t.onLink lost
  else if s.pins.lclrN = false then s.onLink fun l => { l with acked := false }
  else if s.supply.mode = .doze then (s.wake.onLink fun l => { l with state := .idle }).dozeFollows false
  else if s.link.state = .forming then s.onLink fun l => (l.stretch dir).defer c
  else
    let busy := (s.onLink start).dozeFollows s.dozeCondition
    (rest busy).dozeFollows busy.dozeCondition

/-- R194, R195: the end of a write that is answered with no effect on any block. -/
def State.answerWrite (a : Answer) (s : State) : State := s.onLink (Link.form a)

/-- The answer and the state a request's owning block decides. -/
abbrev Served := State × Answer

/-- R194: a request is handed to its owning block, which applies it and decides its answer as part of the event that ends the
write; a payload that makes the frame malformed never reaches the block. -/
def State.request (c : Instr) (code : Byte) (payload : List Byte) (serve : List Byte → State → Served) (s : State) : State :=
  s.transfer c .write Link.lostWrite (Link.receive (requestFrame code payload)) fun b =>
    match judge b.link.buffer b.link.count with
    | .request _ p => (serve p b).1.answerWrite (serve p b).2
    | .unknown => b.answerWrite (refusal .unknown)
    | .malformed => b.answerWrite (refusal .malformed)
    | .empty => b.onLink Link.endEmpty

/-- A request refused or answered with no effect. -/
def State.unchanged (a : Answer) (s : State) : Served := (s, a)

end Sys2Proof.Machine
end

