-- ==== Sys2Proof/Machine/LinkPort.lean ====
section
/-! DEFINITION. The events of the Link Port: refused and empty writes, the address match, the forming and the reading of an
answer, the link clear and the end of the waking transfer (R191 to R199). -/

namespace Sys2Proof.Machine

/-! ## Writes that reach no block (R193, R194) -/

/-- A write whose data bytes are judged to be what the row says is answered so; other bytes spell another row's event. -/
def State.refusedWrite (c : Instr) (verdict : Verdict) (code : Code) (bytes : List Byte) (s : State) : State :=
  if judgeWrite bytes = verdict then
    s.transfer c .write Link.lostWrite (Link.receive bytes) fun b => b.answerWrite (refusal code)
  else s

/-- MALFORMED. -/
def execMalformed (bytes : List Byte) (s : State) : Host.Outcome State Fault Refusal :=
  .next (s.refusedWrite (.malformed bytes) .malformed .malformed bytes)

/-- UNKNOWN. -/
def execUnknown (code : Byte) (payload : List Byte) (s : State) : Host.Outcome State Fault Refusal :=
  .next (s.refusedWrite (.unknown code payload) .unknown .unknown (requestFrame code payload))

/-- EMPTY_WRITE. -/
def execEmptyWrite (s : State) : Host.Outcome State Fault Refusal :=
  .next (s.transfer .emptyWrite .write Link.lostWrite (Link.receive []) fun b => b.onLink Link.endEmpty)

/-! ## ADDRESS_MATCH (R191) -/

/-- R191, R198, R199: a start condition ends a transfer in progress as a stop would, and one whose rest was ignored. -/
def Link.endTransfer (l : Link) : Link :=
  let m := { l with ignored := false }
  match m.state with
  | .receiving => m.endEmpty
  | .sending | .waking => { m with state := .idle }
  | .idle | .forming => m

/-- R191: the port's response to a matching address byte in RUN. -/
def Link.acknowledge (dir : Dir) (l : Link) : Link :=
  match l.state with
  | .idle =>
    match dir with
    | .write => { l with state := .receiving, buffer := [], count := 0, acked := true }
    | .read => l.beginRead
  | .forming => l.stretch dir
  | .receiving | .sending | .waking => l

/-- R191: an address byte after a start condition, in RUN or DOZE. One for the part that LCLR_N keeps from being acknowledged
opens a transfer that is ignored (R199); one for another device opens a transfer whose end is no event of the part (log
entry 3). -/
def State.addressByte (address : BitVec 7) (dir : Dir) (s : State) : State :=
  let t := s.onLink Link.endTransfer
  if address = t.link.address ∧ t.pins.lclrN = true then
    if t.supply.mode = .doze then t.wake else t.onLink (Link.acknowledge dir)
  else t.onLink fun l => { l with acked := false, ignored := decide (address = l.address) }

/-- A command of the bridge that no stretched clock keeps waiting; behind one it waits (R195, log entry 23). -/
def State.onBus (c : Instr) (f : State → State) (s : State) : State :=
  if s.link.stretched = true ∧ s.pins.lclrN = true then s.event fun t => t.onLink (Link.defer c) else s.event f

/-- ADDRESS_MATCH. A stretched clock lets no start condition onto the bus (R195); in RETAIN no address is acknowledged,
and nothing is kept of the transfer it opens (log entry 3). -/
def execAddressMatch (address : BitVec 7) (dir : Dir) (s : State) : Host.Outcome State Fault Refusal :=
  .next
    (if s.supply.mode = .retain then s.onLink fun l => { l with acked := false }
     else s.onBus (.addressMatch address dir) (State.addressByte address dir))

/-! ## The answer (R195, R196) -/

/-- R195: the forming ends, at the first tick after the end of the write. -/
def State.answerFormed (s : State) : State := if s.link.formingEnds then s.onLink Link.formed else s

/-- ANSWER_FORMED. -/
def execAnswerFormed (s : State) : Host.Outcome State Fault Refusal := .next (s.event State.answerFormed)

/-- ANSWER_READ. -/
def execAnswerRead (bytes : Nat) (s : State) : Host.Outcome State Fault Refusal :=
  .next (s.transfer (.answerRead bytes) .read (Link.lostRead bytes) (fun l => l.endTransfer.beginRead) fun b => b.onLink (Link.endRead bytes))

/-! ## The link clear and the waking transfer (R198, R199) -/

/-- Set the level of LCLR_N. -/
def State.setLclr (level : Bool) (s : State) : State := s.onPins fun p => { p with lclrN := level }

/-- LINK_CLEAR. -/
def execLinkClear (s : State) : Host.Outcome State Fault Refusal :=
  .next ((s.setLclr false).event fun t => t.onLink Link.cut)

/-- LINK_CLEAR_RELEASE: the return high ends the hold on address acknowledgement and does nothing else. -/
def execLinkClearRelease (s : State) : Host.Outcome State Fault Refusal := .next (s.setLclr true)

/-- R198: WAKING ends at the stop that ends the transfer; so does the ignoring of one that a link clear interrupted there. -/
def State.wakingEnds (s : State) : State := if s.link.ignores then s.onLink Link.endIgnored else s

/-- WAKING_TRANSFER_END. -/
def execWakingTransferEnd (s : State) : Host.Outcome State Fault Refusal := .next (s.onBus .wakingTransferEnd State.wakingEnds)

end Sys2Proof.Machine
end

