-- ==== Sys2Proof/Machine/Mechanism.lean ====
section
/-! DEFINITION. The Mechanism Sequencer: SET-TARGET, READ-MECHANISM, the expiries of the phase timer and the changes of DRDY
(R102 to R121). -/

namespace Sys2Proof.Machine

/-! ## SET-TARGET (R105) -/

/-- R105: the target takes its value; ON also clears the fault latch. -/
def Sequencer.aim (target : Target) (q : Sequencer) : Sequencer :=
  match target with
  | .on => { q with target := .on, fault := .clear }
  | .off => { q with target := .off }

/-- R105 to R112: what a sequencer does on the target it was just given. -/
def State.actOnTarget (s : State) : State :=
  match s.seq.state with
  | .off => s.powerUpCheck
  | .ready => if s.seq.target = .off then s.wayDown else s
  | .draining => if s.offDemand then s else s.onSeq Sequencer.toReady
  | .powering | .spinning | .unloading | .stopping | .cycleWait => s

/-- R105: the target is set, with the effects of its state. -/
def State.setTarget (target : Target) (s : State) : State := (s.onSeq (Sequencer.aim target)).actOnTarget

/-- R203: the target a byte names. -/
def targetOf (n : Nat) : Option Target :=
  match n with
  | 0 => some .off
  | 1 => some .on
  | _ => none

/-- R105, R201: the answer of SET-TARGET: the sequencer state as the request's effects leave it, where R106 can be read otherwise
(log entry 26). -/
def State.targetAnswer (s : State) : Answer :=
  okAnswer (be1 s.seq.state.code ++ be1 s.seq.target.code ++ be1 s.seq.fault.code)

/-- R105. -/
def serveSetTarget (payload : List Byte) (s : State) : Served :=
  match (readByte payload).bind targetOf with
  | none => s.unchanged (refusal .badArg)
  | some target => (s.setTarget target, (s.setTarget target).targetAnswer)

/-- SET_TARGET. -/
def execSetTarget (payload : List Byte) (s : State) : Host.Outcome State Fault Refusal :=
  .next (s.request (.setTarget payload) 0x38 payload serveSetTarget)

/-! ## READ-MECHANISM (R121) -/

/-- R121: the phase time remaining in ms; the phase timer is stopped in OFF, READY and DRAINING. -/
def Sequencer.remaining (q : Sequencer) : Nat :=
  match q.state with
  | .off | .ready | .draining => 0
  | .powering | .spinning | .unloading | .stopping | .cycleWait => q.phase.getD 0

/-- R205: the lines byte. -/
def State.linesByte (s : State) : Nat :=
  flag s.lines.1 + 2 * flag s.lines.2.1 + 4 * flag s.lines.2.2 + 8 * flag s.pins.drdy

/-- R121, R205: the mechanism report. -/
def State.mechanismReport (s : State) : List Byte :=
  be1 s.seq.state.code ++ be1 s.seq.target.code ++ be1 s.seq.fault.code ++
    be1 (flag s.offDemand + 2 * flag s.critical) ++ be1 s.seq.stopCause.code ++ be2 s.seq.remaining ++
    be2 s.seq.waited ++ be1 s.linesByte

/-- R121. -/
def serveReadMechanism (payload : List Byte) (s : State) : Served :=
  match readNothing payload with
  | none => s.unchanged (refusal .badArg)
  | some _ => s.unchanged (okAnswer s.mechanismReport)

/-- READ_MECHANISM. -/
def execReadMechanism (payload : List Byte) (s : State) : Host.Outcome State Fault Refusal :=
  .next (s.request (.readMechanism payload) 0x39 payload serveReadMechanism)

/-! ## Expiries of the phase timer -/

/-- An expiry of the phase timer is the event of the state it was started for; in another state, or with the timer stopped or
started anew, it does not happen (R104, R120, R177). -/
def State.phaseExpiry (state : SeqState) (f : State → State) (s : State) : State :=
  if s.seq.state = state ∧ timerEnded s.seq.phase then f s else s

/-- R109: the supply settle time expires: SPINNING, and READY at once where DRDY is already asserted. -/
def State.supplySettles (s : State) : State :=
  let t := s.onSeq Sequencer.toSpinning
  if t.pins.drdy then t.readyReached else t

/-- SUPPLY_SETTLE_EXPIRY. -/
def execSupplySettleExpiry (s : State) : Host.Outcome State Fault Refusal :=
  .next (s.event (State.phaseExpiry .powering State.supplySettles))

/-- R110: the spin timeout expires. -/
def State.spinTimesOut (s : State) : State :=
  (s.onSeq fun q => (q.toStopping .spinTimeout).latch .spinTimeout .spinTimeout).raise .mechanism

/-- SPIN_TIMEOUT_EXPIRY. -/
def execSpinTimeoutExpiry (s : State) : Host.Outcome State Fault Refusal :=
  .next (s.event (State.phaseExpiry .spinning State.spinTimesOut))

/-- R113: the unload time expires: STOPPING, with the stop cause kept. -/
def State.unloads (s : State) : State := s.onSeq Sequencer.spinsDown

/-- UNLOAD_TIME_EXPIRY. -/
def execUnloadTimeExpiry (s : State) : Host.Outcome State Fault Refusal :=
  .next (s.event (State.phaseExpiry .unloading State.unloads))

/-- SPIN_DOWN_EXPIRY (R114). -/
def execSpinDownExpiry (s : State) : Host.Outcome State Fault Refusal :=
  .next (s.event (State.phaseExpiry .stopping State.enterCycleWait))

/-- CYCLE_DELAY_EXPIRY (R115). -/
def execCycleDelayExpiry (s : State) : Host.Outcome State Fault Refusal :=
  .next (s.event (State.phaseExpiry .cycleWait State.offReached))

/-! ## DRDY (R110, R117) -/

/-- Set the level of DRDY. -/
def State.setDrdy (level : Bool) (s : State) : State := s.onPins fun p => { p with drdy := level }

/-- R110, R117: an assertion of DRDY enters READY from SPINNING; in every other state it is not acted on. -/
def State.drdyRises (s : State) : State :=
  if s.seq.state = .spinning then s.readyReached else s

/-- DRDY_ASSERTED. -/
def execDrdyAsserted (s : State) : Host.Outcome State Fault Refusal :=
  .next ((s.setDrdy true).event State.drdyRises)

/-- R117: a release of DRDY in READY or DRAINING is a loss of the ready line; in every other state it is not acted on. -/
def State.drdyFalls (s : State) : State :=
  match s.seq.state with
  | .ready | .draining =>
    (s.onSeq fun q => (q.toUnloading .readyLost).latch .readyLost .readyLost).raise .mechanism
  | .off | .powering | .spinning | .unloading | .stopping | .cycleWait => s

/-- DRDY_RELEASED. -/
def execDrdyReleased (s : State) : Host.Outcome State Fault Refusal :=
  .next ((s.setDrdy false).event State.drdyFalls)

end Sys2Proof.Machine
end

