-- ==== Sys2Proof/Machine/Motion.lean ====
section
/-! DEFINITION. The Sensor Port and the Motion Guard: the sample timer, the completion of a setup and of a read, the sample in
each guard state, the settle timer and READ-GUARD (R75 to R97). -/

namespace Sys2Proof.Machine

/-! ## Missed samples and BLIND (R80) -/

/-- R80: what entering BLIND does to the guard's own state. -/
def Guard.goBlind (g : Guard) : Guard :=
  { g.closeEpisode with run := 0, settle := none, setupPending := true, misses := 3 }

/-- R80: the guard enters BLIND. -/
def State.enterBlind (s : State) : State := ((s.onGuard Guard.goBlind).raise .sensor).guardEnters .blind

/-- R80: a sample is missed; in BLIND a further miss changes nothing. -/
def State.missSample (s : State) : State :=
  if s.guard.state = .blind then s
  else if 3 ≤ s.guard.misses + 1 then s.enterBlind
  else s.onGuard fun g => { g with misses := g.misses + 1 }

/-- R78, R79, R81: a transfer has failed: none is in flight, in BLIND setup pending is set, and the sample is missed. -/
def State.transferFailed (s : State) : State :=
  (s.onGuard fun g =>
    { g with transfer := .none, setupPending := g.setupPending || g.state == .blind }).missSample

/-- R77, R177: a sample timer expiry: the timer is reloaded; a transfer in flight costs the sample, and otherwise a setup or a
read is started. -/
def State.sampleExpiry (s : State) : State :=
  if timerEnded s.guard.sampleTimer = false then s
  else
    let t := s.onGuard fun g => { g with sampleTimer := some g.samplePeriod }
    match t.guard.transfer with
    | .setup | .read => t.missSample
    | .none => t.onGuard fun g => { g with transfer := if g.setupPending then .setup else .read }

/-- SAMPLE_TIMER_EXPIRY. -/
def execSampleTimerExpiry (s : State) : Host.Outcome State Fault Refusal := .next (s.event State.sampleExpiry)

/-- R78: a setup in flight completes. -/
def State.setupEnds (good : Bool) (s : State) : State :=
  if s.guard.transfer ≠ .setup then s
  else if good then s.onGuard fun g => { g with transfer := .none, setupPending := false }
  else s.transferFailed

/-- SETUP_COMPLETE. -/
def execSetupComplete (address first second third : Bool) (s : State) : Host.Outcome State Fault Refusal :=
  .next (s.event (State.setupEnds (setupGood address first second third)))

/-! ## A sample in each guard state (R88 to R93) -/

/-- R90: a knock. -/
def State.knock (m2 : Nat) (s : State) : State :=
  ((s.joltMarking.onGuard fun g =>
    { g with
      knocks := min 65535 (g.knocks + 1), episode := Episode.start .knock m2 0, fallMs := 0,
      settle := some g.settleTime, run := 0 }).raise .knock).guardEnters .settle

/-- R91: what an entry into FALLING does to the guard's own state, from SETTLE or from CALM or WATCH. -/
def Guard.beginFall (m2 : Nat) (g : Guard) : Guard :=
  { g with
    falls := min 65535 (g.falls + 1),
    episode := if g.state = .settle then g.episode.fallAgain else Episode.start .fall m2 1,
    fallMs := 0, run := 0, settle := none }

/-- R91: the guard enters FALLING. -/
def State.enterFalling (m2 : Nat) (s : State) : State :=
  ((s.emergencyUnload.joltMarking.onGuard (Guard.beginFall m2)).raise .fall).guardEnters .falling

/-- R92: what leaving FALLING for SETTLE does to the guard's own state. -/
def Guard.land (g : Guard) : Guard :=
  { g with episode := g.episode.addFall g.fallMs, fallMs := 0, run := 0, settle := some g.settleTime }

/-- R92: the guard leaves FALLING for SETTLE. -/
def State.landed (s : State) : State := (s.onGuard Guard.land).guardEnters .settle

/-- Set the run counter. -/
def State.setRun (n : Nat) (s : State) : State := s.onGuard fun g => { g with run := n }

/-- A LOW sample raises the run counter; when it reaches Nf the guard enters FALLING (R88, R89, R93). -/
def State.lowSample (m2 : Nat) (next : GuardState) (s : State) : State :=
  if s.guard.nf ≤ s.guard.run + 1 then s.enterFalling m2
  else (s.setRun (s.guard.run + 1)).guardEnters next

/-- R88: a sample in CALM. -/
def State.sampleInCalm (m2 : Nat) (c : SampleClass) (s : State) : State :=
  match c with
  | .low => (s.setRun 0).lowSample m2 .watch
  | .normal => s
  | .impact => s.knock m2

/-- R89: a sample in WATCH. -/
def State.sampleInWatch (m2 : Nat) (c : SampleClass) (s : State) : State :=
  match c with
  | .low => s.lowSample m2 .watch
  | .normal => (s.setRun 0).guardEnters .calm
  | .impact => s.knock m2

/-- R92: a sample in FALLING. -/
def State.sampleInFalling (c : SampleClass) (s : State) : State :=
  match c with
  | .low => s.setRun 0
  | .normal => if s.guard.nf ≤ s.guard.run + 1 then s.landed else s.setRun (s.guard.run + 1)
  | .impact => s.landed

/-- R93: a sample in SETTLE. -/
def State.sampleInSettle (m2 : Nat) (c : SampleClass) (s : State) : State :=
  match c with
  | .low => s.lowSample m2 .settle
  | .normal => s.setRun 0
  | .impact => s.onGuard fun g => { g with settle := some g.settleTime, run := 0 }

/-- R81: the first good read in BLIND returns the guard to CALM and raises SENSOR. -/
def State.leaveBlind (s : State) : State :=
  if s.guard.state = .blind then (s.raise .sensor).guardEnters .calm else s

/-- R81, R87 to R93: a good sample is taken by the guard. -/
def State.takeSample (m2 : Nat) (c : SampleClass) (s : State) : State :=
  let t := s.leaveBlind
  match t.guard.state with
  | .calm => t.sampleInCalm m2 c
  | .watch => t.sampleInWatch m2 c
  | .falling => t.sampleInFalling c
  | .settle => t.sampleInSettle m2 c
  | .blind => t

/-- R79, R95: a good read: the miss count is 0, the last sample is replaced, an open episode notes its m2. -/
def Guard.goodRead (smp : Sample) (g : Guard) : Guard :=
  { g with transfer := .none, misses := 0, lastSample := some smp, episode := g.episode.note smp.m2 }

/-- R79: a read in flight completes, good with this sample or failed. -/
def State.readEnds (sample : Option Sample) (s : State) : State :=
  if s.guard.transfer ≠ .read then s
  else
    match sample with
    | none => s.transferFailed
    | some smp => (s.onGuard (Guard.goodRead smp)).takeSample smp.m2 smp.cls

/-- R75: the sample of a read as the port judges it at its completion: none where the read failed. -/
def judgedSample (ff fi : Nat) (writeAddress index readAddress : Bool) (data : List Byte) : Option Sample :=
  if readFailed writeAddress index readAddress data then none else readSample ff fi data

/-- READ_COMPLETE. -/
def execReadComplete (writeAddress index readAddress : Bool) (data : List Byte) (s : State) :
    Host.Outcome State Fault Refusal :=
  .next (s.event (State.readEnds (judgedSample s.guard.ff s.guard.fi writeAddress index readAddress data)))

/-! ## Settle timer (R94) -/

/-- R94, R177: the settle timer expires in SETTLE; a sample that stopped or restarted it was taken first. -/
def State.settleExpiry (s : State) : State :=
  if timerEnded s.guard.settle ∧ s.guard.state = .settle then
    ((s.onGuard fun g => { g.closeEpisode with settle := none, run := 0 }).raise .settled).guardEnters .calm
  else s

/-- SETTLE_TIMER_EXPIRY. -/
def execSettleTimerExpiry (s : State) : Host.Outcome State Fault Refusal := .next (s.event State.settleExpiry)

/-! ## READ-GUARD (R97, R205) -/

/-- R205: the flags byte of the guard report. -/
def Guard.flags (g : Guard) : Nat :=
  flag g.setupPending + 2 * flag g.episode.isOpen + 4 * flag g.lastSample.isSome

/-- R97, R205: the axes and the class, or zeros when the last sample is absent. -/
def sampleBytes (smp : Option Sample) : List Byte :=
  match smp with
  | some p => beSigned2 p.x ++ beSigned2 p.y ++ beSigned2 p.z ++ be1 p.cls.code
  | none => be2 0 ++ be2 0 ++ be2 0 ++ be1 0

/-- R97, R205: the guard report. -/
def Guard.report (g : Guard) : List Byte :=
  be1 g.state.code ++ be1 g.blindPolicy.code ++ be1 g.flags ++ be1 g.misses ++ be1 g.run ++ be2 g.falls ++ be2 g.knocks ++
    be1 g.episode.kind.code ++ be2 (integerRoot g.episode.peak) ++ be2 g.episode.duration ++ be1 g.episode.falls ++
    sampleBytes g.lastSample

/-- R97. -/
def serveReadGuard (payload : List Byte) (s : State) : Served :=
  match readNothing payload with
  | none => s.unchanged (refusal .badArg)
  | some _ => s.unchanged (okAnswer s.guard.report)

/-- READ_GUARD. -/
def execReadGuard (payload : List Byte) (s : State) : Host.Outcome State Fault Refusal :=
  .next (s.request (.readGuard payload) 0x30 payload serveReadGuard)

end Sys2Proof.Machine
end

