-- ==== Sys2Proof/Machine/Charge.lean ====
section
/-! DEFINITION. The Charge Gauge: the period end step by step, SET-CHARGE, a change of capacity and READ-GAUGE (R125 to
R145). -/

namespace Sys2Proof.Machine

/-- R130: the µA·ms of one µAh. -/
def microampMsPerMicroampHour : Int := 3600000

/-- R128, step 1: the period's current and voltage become the last ones. -/
def Gauge.takeInputs (code volts : BitVec 16) (g : Gauge) : Gauge :=
  { g with current := code.toInt * g.scale, volts := volts.toNat }

/-- R131, step 4: Q beyond a bound takes the bound, and the residue is discarded with what lies beyond. -/
def Gauge.bound (q residue : Int) (g : Gauge) : Gauge :=
  if q < 0 then { g with q := 0, residue := 0 }
  else if (g.cf : Int) < q then { g with q := g.cf, residue := 0 }
  else { g with q := q.toNat, residue := residue }

/-- R130, R131, steps 2 to 4: the period's charge joins the residue, the whole µAh of the residue move into Q, and Q is
bounded. -/
def Gauge.count (g : Gauge) : Gauge :=
  let residue := g.residue + g.current * g.runningLength
  let d := residue.tdiv microampMsPerMicroampHour
  g.bound (g.q + d) (residue - d * microampMsPerMicroampHour)

/-- R132, step 5: compute S. -/
def Gauge.computeS (g : Gauge) : Gauge := { g with s := stateOfCharge g.q g.cf }

/-- R133, step 6: append the current; the list holds the latest four. -/
def Gauge.append (g : Gauge) : Gauge :=
  let l := g.currents ++ [g.current]
  { g with currents := if 4 < l.length then l.drop 1 else l }

/-- R134: the empty test. -/
def Gauge.emptyTest (g : Gauge) : Bool := decide (g.volts < g.vEmpty) && decide (g.current ≤ 0)

/-- R135: the full test. -/
def Gauge.fullTest (present : Bool) (g : Gauge) : Bool :=
  present && decide (g.vFull ≤ g.volts) && decide (0 ≤ g.current) && decide (g.current ≤ (g.taper * 1000 : Nat))

/-- R134, R135, step 7: the runs after the tests of this period end, before a correction resets one. -/
def Gauge.runs (present : Bool) (g : Gauge) : Nat × Nat :=
  (if g.emptyTest then g.emptyRun + 1 else 0, if g.fullTest present then g.fullRun + 1 else 0)

/-- R134: the empty correction. -/
def Gauge.correctEmpty (g : Gauge) : Gauge :=
  { g with q := 0, residue := 0, s := 0, uncertain := false, emptyRun := 0 }

/-- R135: the full correction. -/
def Gauge.correctFull (g : Gauge) : Gauge :=
  { g with q := g.cf, residue := 0, s := 1000, uncertain := false, fullRun := 0 }

/-- R142: a snap. -/
def Gauge.snap (g : Gauge) : Gauge := { g with p := g.s, slewCount := 0 }

/-- R141: P moves toward S by at most the slew step. -/
def slewed (p s step : Nat) : Nat :=
  if p < s then p + min step (s - p) else if s < p then p - min step (p - s) else p

/-- R141: the slew counts; at the fourth count P moves. -/
def Gauge.slew (g : Gauge) : Gauge :=
  if 4 ≤ g.slewCount + 1 then { g with p := slewed g.p g.s g.slewStep, slewCount := 0 }
  else { g with slewCount := g.slewCount + 1 }

/-- R142, step 8: P is snapped where snap pending is set or a correction was applied, and slews otherwise. -/
def Gauge.report8 (corrected : Bool) (g : Gauge) : Gauge :=
  if g.snapPending || corrected then { g.snap with snapPending := false } else g.slew

/-- R134, R135, steps 7 and 8, and whether the empty correction was applied. -/
def Gauge.correct (present : Bool) (g : Gauge) : Gauge × Bool :=
  let r := g.runs present
  let t := { g with emptyRun := r.1, fullRun := r.2 }
  if 3 ≤ r.1 then (t.correctEmpty.report8 true, true)
  else if 8 ≤ r.2 then (t.correctFull.report8 true, false)
  else (t.report8 false, false)

/-- R139: the Q of the cold-start estimate. -/
def Gauge.estimateQ (g : Gauge) : Nat :=
  if g.volts ≤ g.vEmpty then 0
  else if g.vFull ≤ g.volts then g.cf
  else g.cf * (g.volts - g.vEmpty) / (g.vFull - g.vEmpty)

/-- R139, R149: the cold-start estimate, which snaps P and clears estimate pending and snap pending. -/
def Gauge.estimate (g : Gauge) : Gauge :=
  { ({ g with q := g.estimateQ, residue := 0, estimatePending := false } : Gauge).computeS.snap with snapPending := false }

/-- R127, step 9: the timer reloads with T, which becomes the running period length. -/
def Gauge.reload (g : Gauge) : Gauge := { g with timer := some g.period, runningLength := g.period }

/-- R129: a period end, and whether it applied the empty correction. -/
def Gauge.periodEnd (code volts : BitVec 16) (present : Bool) (g : Gauge) : Gauge × Bool :=
  let t := g.takeInputs code volts
  let r := if t.estimatePending then (t.estimate, false) else t.count.computeS.append.correct present
  (r.1.reload, r.2)

/-- R129, R144: a period end: the gauge's work, and the hand-off of Q to the Supply Monitor. -/
def State.periodEnds (code volts : BitVec 16) (s : State) : State :=
  if timerEnded s.gauge.timer = false then s
  else
    let r := s.gauge.periodEnd code volts s.supply.present
    (s.onGauge fun _ => r.1).evaluate s.critical r.2

/-- PERIOD_END. -/
def execPeriodEnd (code volts : BitVec 16) (s : State) : Host.Outcome State Fault Refusal :=
  .next (s.event (State.periodEnds code volts))

/-! ## SET-CHARGE (R137) and the capacity (R138) -/

/-- R137: Q is set from mAh, with the effects on the gauge. -/
def Gauge.setCharge (mAh : Nat) (g : Gauge) : Gauge :=
  ({ g with q := min (mAh * 1000) g.cf, residue := 0, uncertain := false, estimatePending := false } : Gauge).computeS.snap

/-- R137, R144: SET-CHARGE hands Q to the Supply Monitor. -/
def State.setCharge (mAh : Nat) (s : State) : State := (s.onGauge (Gauge.setCharge mAh)).evaluate s.critical false

/-- R137. -/
def serveSetCharge (payload : List Byte) (s : State) : Served :=
  match readTwo payload with
  | none => s.unchanged (refusal .badArg)
  | some mAh =>
    let t := s.setCharge mAh
    (t, okAnswer (be2 (t.gauge.q / 1000) ++ be2 t.gauge.s))

/-- SET_CHARGE. -/
def execSetCharge (payload : List Byte) (s : State) : Host.Outcome State Fault Refusal :=
  .next (s.request (.setCharge payload) 0x41 payload serveSetCharge)

/-- R138: a change of capacity: Q above the new Cf takes it and the residue becomes 0; S is recomputed and P snapped to it. -/
def Gauge.setCapacity (mAh : Nat) (g : Gauge) : Gauge :=
  let t := { g with capacity := mAh }
  (if t.cf < t.q then { t with q := t.cf, residue := 0 } else t).computeS.snap

/-! ## READ-GAUGE (R145, R205) -/

/-- R145, R205: the gauge report, with R_park as the Supply Monitor holds it. -/
def Gauge.report (rPark : Nat) (g : Gauge) : List Byte :=
  be2 g.p ++ be2 g.s ++ be4 g.q ++ be1 (flag g.uncertain + 2 * flag g.estimatePending) ++
    beSigned2 (g.current.tdiv 1000) ++ beSigned2 (g.average.tdiv 1000) ++ be1 g.currents.length ++ be2 g.volts ++
    be2 (timeToReserve g.average g.q rPark) ++ be2 g.capacity ++ be1 g.emptyRun ++ be1 g.fullRun

/-- R145. -/
def serveReadGauge (payload : List Byte) (s : State) : Served :=
  match readNothing payload with
  | none => s.unchanged (refusal .badArg)
  | some _ => s.unchanged (okAnswer (s.gauge.report s.supply.rPark))

/-- READ_GAUGE. -/
def execReadGauge (payload : List Byte) (s : State) : Host.Outcome State Fault Refusal :=
  .next (s.request (.readGauge payload) 0x40 payload serveReadGauge)

end Sys2Proof.Machine
end

