-- ==== Sys2Proof/Machine/Params.lean ====
section
/-! DEFINITION. The numbered parameters (R206): their numbers and ranges, READ-PARAM (R207), and SET-PARAM with the owning
rules' adjustments and effects. The defaults stand in State.cold. -/

namespace Sys2Proof.Machine

/-- The parameters of the table of R206. -/
inductive Param
  /-- The media limit. -/
  | mediaLimit
  /-- The unmapped-write policy. -/
  | unmappedPolicy
  /-- The grant timeout. -/
  | grantTimeout
  /-- The sample period. -/
  | samplePeriod
  /-- The free-fall threshold Ff. -/
  | ff
  /-- The impact threshold Fi. -/
  | fi
  /-- The fall count Nf. -/
  | nf
  /-- The settle time. -/
  | settleTime
  /-- The blind policy. -/
  | blindPolicy
  /-- The supply settle. -/
  | supplySettle
  /-- The spin timeout. -/
  | spinTimeout
  /-- The unload time. -/
  | unloadTime
  /-- The spin-down time. -/
  | spinDown
  /-- The cycle delay. -/
  | cycleDelay
  /-- The gauge period T. -/
  | gaugePeriod
  /-- The current scale K. -/
  | currentScale
  /-- The capacity Cfull. -/
  | capacity
  /-- The empty voltage Vempty. -/
  | vEmpty
  /-- The full voltage Vfull. -/
  | vFull
  /-- The taper current. -/
  | taper
  /-- The slew step. -/
  | slewStep
  /-- The park reserve R_park. -/
  | rPark
  /-- The reserve per open survey R_entry. -/
  | rEntry
  /-- The hysteresis H. -/
  | hyst
  /-- The doze delay. -/
  | dozeDelay
  /-- The attention mask. -/
  | mask
  deriving DecidableEq, Repr

/-- The parameter of each number (R206); none for a number not in the table. -/
def paramOf (number : Nat) : Option Param :=
  match number with
  | 0x01 => some .mediaLimit
  | 0x02 => some .unmappedPolicy
  | 0x08 => some .grantTimeout
  | 0x10 => some .samplePeriod
  | 0x11 => some .ff
  | 0x12 => some .fi
  | 0x13 => some .nf
  | 0x14 => some .settleTime
  | 0x15 => some .blindPolicy
  | 0x18 => some .supplySettle
  | 0x19 => some .spinTimeout
  | 0x1A => some .unloadTime
  | 0x1B => some .spinDown
  | 0x1C => some .cycleDelay
  | 0x20 => some .gaugePeriod
  | 0x21 => some .currentScale
  | 0x22 => some .capacity
  | 0x23 => some .vEmpty
  | 0x24 => some .vFull
  | 0x25 => some .taper
  | 0x26 => some .slewStep
  | 0x28 => some .rPark
  | 0x29 => some .rEntry
  | 0x2A => some .hyst
  | 0x2B => some .dozeDelay
  | 0x30 => some .mask
  | _ => none

/-- The range of each parameter, in the unit of the table (R206). -/
def Param.range : Param → Nat × Nat
  | .mediaLimit => (15, 4294967295)
  | .unmappedPolicy => (0, 1)
  | .grantTimeout => (100, 60000)
  | .samplePeriod => (1, 20)
  | .ff => (0, 2047)
  | .fi => (1, 2047)
  | .nf => (1, 255)
  | .settleTime => (50, 5000)
  | .blindPolicy => (0, 1)
  | .supplySettle => (10, 500)
  | .spinTimeout => (500, 10000)
  | .unloadTime => (50, 1000)
  | .spinDown => (100, 5000)
  | .cycleDelay => (0, 10000)
  | .gaugePeriod => (100, 1000)
  | .currentScale => (1, 1000)
  | .capacity => (100, 20000)
  | .vEmpty => (2500, 3600)
  | .vFull => (3700, 4400)
  | .taper => (10, 1000)
  | .slewStep => (1, 50)
  | .rPark => (0, 1000)
  | .rEntry => (0, 500)
  | .hyst => (0, 200)
  | .dozeDelay => (1, 600)
  | .mask => (0, 7)

/-- R206, step 2: a value outside the range takes the nearest end. -/
def Param.clamp (p : Param) (v : Nat) : Nat := max p.range.1 (min p.range.2 v)

/-- R119: the sequencer timing parameters. -/
def Param.isTiming : Param → Bool
  | .supplySettle | .spinTimeout | .unloadTime | .spinDown | .cycleDelay => true
  | .mediaLimit | .unmappedPolicy | .grantTimeout | .samplePeriod | .ff | .fi | .nf | .settleTime | .blindPolicy | .gaugePeriod | .currentScale | .capacity
  | .vEmpty | .vFull | .taper | .slewStep | .rPark | .rEntry | .hyst | .dozeDelay | .mask => false

/-- R207: the value in force, in the unit of the table. -/
def State.paramValue (s : State) : Param → Nat
  | .mediaLimit => s.table.mediaLimit
  | .unmappedPolicy => s.table.policy.code
  | .grantTimeout => s.grants.timeout
  | .samplePeriod => s.guard.samplePeriod
  | .ff => s.guard.ff
  | .fi => s.guard.fi
  | .nf => s.guard.nf
  | .settleTime => s.guard.settleTime
  | .blindPolicy => s.guard.blindPolicy.code
  | .supplySettle => s.seq.supplySettle
  | .spinTimeout => s.seq.spinTimeout
  | .unloadTime => s.seq.unloadTime
  | .spinDown => s.seq.spinDown
  | .cycleDelay => s.seq.cycleDelay
  | .gaugePeriod => s.gauge.period
  | .currentScale => s.gauge.scale
  | .capacity => s.gauge.capacity
  | .vEmpty => s.gauge.vEmpty
  | .vFull => s.gauge.vFull
  | .taper => s.gauge.taper
  | .slewStep => s.gauge.slewStep
  | .rPark => s.supply.rPark / 1000
  | .rEntry => s.supply.rEntry / 1000
  | .hyst => s.supply.hyst / 1000
  | .dozeDelay => s.supply.dozeDelay
  | .mask => s.attention.mask

/-- R206, step 2: the value taken: the clamped value with the parameter's own adjustment (R84, R126). -/
def State.valueTaken (s : State) (p : Param) (v : Nat) : Nat :=
  let c := p.clamp v
  match p with
  | .ff => if c < s.guard.fi then c else s.guard.fi - 1
  | .fi => if s.guard.ff < c then c else s.guard.ff + 1
  | .gaugePeriod => c / 50 * 50
  | .mediaLimit | .unmappedPolicy | .grantTimeout | .samplePeriod | .nf | .settleTime | .blindPolicy | .supplySettle | .spinTimeout | .unloadTime | .spinDown
  | .cycleDelay | .currentScale | .capacity | .vEmpty | .vFull | .taper | .slewStep | .rPark | .rEntry | .hyst | .dozeDelay | .mask => c

/-- R119: the sequencer timing parameters change only in OFF and CYCLE_WAIT. -/
def State.locked (s : State) (p : Param) : Bool :=
  p.isTiming && s.seq.state != .off && s.seq.state != .cycleWait

/-- R7: the value lies below the last block of a window held by a live entry. -/
def State.limitRefused (s : State) (v : Nat) : Bool := s.liveWindows.any fun (_, _, w) => decide (v < w.last)

/-- R119, R206: the refusal of a SET-PARAM of this parameter, where there is one. -/
def State.paramRefusal (s : State) (p : Param) (v : Nat) : Option Code :=
  if s.locked p then some .locked
  else if p = .mediaLimit ∧ s.limitRefused (s.valueTaken p v) = true then some .badState
  else none

/-- R86: a new Nf; a run counter at or above it becomes Nf − 1. -/
def Guard.setNf (n : Nat) (g : Guard) : Guard := { g with nf := n, run := if n ≤ g.run then n - 1 else g.run }

/-- R76: a new sample period restarts the sample timer with it. -/
def Guard.setSamplePeriod (n : Nat) (g : Guard) : Guard := { g with samplePeriod := n, sampleTimer := some n }

/-- R8: the policy of an encoded value. -/
def unmappedOf (n : Nat) : UnmappedPolicy := if n = 0 then .allow else .deny

/-- R82: the policy of an encoded value. -/
def blindOf (n : Nat) : BlindPolicy := if n = 0 then .proceed else .hold

/-- R119, R120: a new cycle delay; in CYCLE_WAIT it measures the wait in progress. -/
def State.setCycleDelay (d : Nat) (s : State) : State :=
  let t := s.onSeq fun q => { q with cycleDelay := d }
  if t.seq.state = .cycleWait then
    if d ≤ t.seq.waited then t.offReached
    else t.onSeq fun q => { q with phase := some (d - q.waited) }
  else t

/-- R206, step 4: the value taken becomes the parameter's value, with the owning rule's effects. -/
def State.setParam (p : Param) (v : Nat) (s : State) : State :=
  match p with
  | .mediaLimit => s.onTable fun t => { t with mediaLimit := v }
  | .unmappedPolicy => s.onTable fun t => { t with policy := unmappedOf v }
  | .grantTimeout => s.onGrants fun t => { t with timeout := v }
  | .samplePeriod => s.onGuard (Guard.setSamplePeriod v)
  | .ff => s.onGuard fun g => { g with ff := v }
  | .fi => s.onGuard fun g => { g with fi := v }
  | .nf => s.onGuard (Guard.setNf v)
  | .settleTime => s.onGuard fun g => { g with settleTime := v }
  | .blindPolicy => (s.onGuard fun g => { g with blindPolicy := blindOf v }).powerUpCheck
  | .supplySettle => s.onSeq fun q => { q with supplySettle := v }
  | .spinTimeout => s.onSeq fun q => { q with spinTimeout := v }
  | .unloadTime => s.onSeq fun q => { q with unloadTime := v }
  | .spinDown => s.onSeq fun q => { q with spinDown := v }
  | .cycleDelay => s.setCycleDelay v
  | .gaugePeriod => s.onGauge fun g => { g with period := v }
  | .currentScale => s.onGauge fun g => { g with scale := v }
  | .capacity => (s.onGauge (Gauge.setCapacity v)).evaluate s.critical false
  | .vEmpty => s.onGauge fun g => { g with vEmpty := v }
  | .vFull => s.onGauge fun g => { g with vFull := v }
  | .taper => s.onGauge fun g => { g with taper := v }
  | .slewStep => s.onGauge fun g => { g with slewStep := v }
  | .rPark => (s.onSupply fun u => { u with rPark := v * 1000 }).evaluate s.critical false
  | .rEntry => (s.onSupply fun u => { u with rEntry := v * 1000 }).evaluate s.critical false
  | .hyst => (s.onSupply fun u => { u with hyst := v * 1000 }).evaluate s.critical false
  | .dozeDelay => s.onSupply fun u => { u with dozeDelay := v }
  | .mask => s.onAttention fun a => { a with mask := v }

/-- R201: the payload of a parameter answer. -/
def paramBytes (number value : Nat) : List Byte := be1 number ++ be4 value

/-- R206. -/
def serveSetParam (payload : List Byte) (s : State) : Served :=
  match readParamValue payload with
  | none => s.unchanged (refusal .badArg)
  | some (number, v) =>
    match paramOf number with
    | none => s.unchanged (refusal .badArg)
    | some p =>
      match s.paramRefusal p v with
      | some c => s.unchanged (refusal c)
      | none => (s.setParam p (s.valueTaken p v), okAnswer (paramBytes number (s.valueTaken p v)))

/-- SET_PARAM. -/
def execSetParam (payload : List Byte) (s : State) : Host.Outcome State Fault Refusal :=
  .next (s.request (.setParam payload) 0x05 payload serveSetParam)

/-- R207. -/
def serveReadParam (payload : List Byte) (s : State) : Served :=
  match readByte payload with
  | none => s.unchanged (refusal .badArg)
  | some number =>
    match paramOf number with
    | none => s.unchanged (refusal .badArg)
    | some p => s.unchanged (okAnswer (paramBytes number (s.paramValue p)))

/-- READ_PARAM. -/
def execReadParam (payload : List Byte) (s : State) : Host.Outcome State Fault Refusal :=
  .next (s.request (.readParam payload) 0x04 payload serveReadParam)

end Sys2Proof.Machine
end

