-- ==== Sys2Proof/Machine/Survey.lean ====
section
/-! DEFINITION. The requests on the Survey Table (R10 to R24). -/

namespace Sys2Proof.Machine

/-! ## The entry report (R22, R204) -/

/-- R204: the bytes of a window in a report or an answer. -/
def Window.bytes (w : Window) : List Byte := be4 w.base ++ be1 w.cls

/-- R204: the flags byte of an entry report. -/
def Entry.flags (e : Entry) : Nat := flag e.verify + 2 * flag e.sealed.isSome + 4 * flag e.hold.isSome

/-- R22, R204: the entry report of a slot. -/
def State.entryReport (s : State) (i : Fin 64) : List Byte :=
  let e := s.entry i
  be1 i ++ be1 e.state.code ++ be2 (e.number.getD 0) ++ be1 e.flags ++ be4 (e.opened.getD 0) ++
    be4 (e.sealed.getD 0) ++ be4 (holdRemaining e.hold s.clock.runSeconds) ++ be2 e.issued ++ be4 e.written ++
    be1 e.jolts ++ be1 (s.outstanding i) ++ be1 e.label.length ++ e.label ++ be1 e.windows.length ++
    e.windows.flatMap Window.bytes

/-! ## OPEN-SURVEY (R11, R12, R13) -/

/-- R13: the RESERVE check refuses with the supply absent at LOW and at CRITICAL. -/
def State.reserveRefuses (s : State) : Bool := !s.supply.present && s.supply.level != .ample

/-- R11: the first condition met refuses; `none` where every check passes. -/
def State.openRefusal (s : State) (number : Nat) (w : Window) (label : List Byte) : Option Code :=
  if number = 0 ∨ Config.maxClass < w.cls ∨ Config.maxLabel < label.length then some .badArg
  else if (s.findSurvey number).isSome then some .exists
  else if w.aligned = false then some .misaligned
  else if s.table.mediaLimit < w.last then some .outOfRange
  else if s.overlapsLive w then some .overlap
  else if s.lowestFree.isNone ∨ s.freePool = 0 then some .full
  else if s.reserveRefuses then some .reserve
  else none

/-- R12: the entry an accepted OPEN-SURVEY builds. -/
def Entry.openedAs (number : Nat) (w : Window) (label : List Byte) (stamp : Nat) : Entry :=
  { Entry.cleared with
    state := .opened, number := some number, label := label, windows := [w], opened := some stamp }

/-- R12: an accepted OPEN-SURVEY builds the entry in the slot; n_open rises and the level is evaluated, within the request and on
the state it finds (R9, R166), where a sentence of R13 can be read otherwise (log entry 25). -/
def State.openIn (i : Fin 64) (number : Nat) (w : Window) (label : List Byte) (s : State) : State :=
  (s.setEntry i (Entry.openedAs number w label s.clock.driveClock)).openChanged

/-- R11, R12. -/
def serveOpenSurvey (payload : List Byte) (s : State) : Served :=
  match readOpen payload with
  | none => s.unchanged (refusal .badArg)
  | some (number, w, label) =>
    match s.openRefusal number w label, s.lowestFree with
    | some c, _ => s.unchanged (refusal c)
    | none, none => s.unchanged (refusal .full)
    | none, some i =>
      let t := s.openIn i number w label
      (t, okAnswer (be1 i ++ be1 t.freePool))

/-- OPEN_SURVEY. -/
def execOpenSurvey (payload : List Byte) (s : State) : Host.Outcome State Fault Refusal :=
  .next (s.request (.openSurvey payload) 0x10 payload serveOpenSurvey)

/-! ## Requests naming one entry -/

/-- R10: a survey number of 0 is BAD-ARG and one no live entry holds NOT-FOUND; otherwise the request acts on the entry. -/
def State.onSurvey (number : Nat) (act : Fin 64 → Served) (s : State) : Served :=
  if number = 0 then s.unchanged (refusal .badArg)
  else
    match s.findSurvey number with
    | none => s.unchanged (refusal .notFound)
    | some i => act i

/-! ## ADD-WINDOW (R14, R15) -/

/-- R14: the checks after BAD-ARG and NOT-FOUND. -/
def State.addRefusal (s : State) (i : Fin 64) (w : Window) : Option Code :=
  if (s.entry i).state ≠ .opened then some .badState
  else if w.aligned = false then some .misaligned
  else if s.table.mediaLimit < w.last then some .outOfRange
  else if s.overlapsLive w then some .overlap
  else if Config.maxWindows ≤ (s.entry i).windows.length ∨ s.freePool = 0 then some .full
  else none

/-- R15: the window is appended to the entry's list. -/
def Entry.addWindow (w : Window) (e : Entry) : Entry := { e with windows := e.windows ++ [w] }

/-- R14, R15. -/
def serveAddWindow (payload : List Byte) (s : State) : Served :=
  match readAdd payload with
  | none => s.unchanged (refusal .badArg)
  | some (number, w) =>
    if Config.maxClass < w.cls then s.unchanged (refusal .badArg)
    else s.onSurvey number fun i =>
      match s.addRefusal i w with
      | some c => s.unchanged (refusal c)
      | none =>
        let t := s.modifyEntry i (Entry.addWindow w)
        (t, okAnswer (be1 (s.entry i).windows.length ++ be1 t.freePool))

/-- ADD_WINDOW. -/
def execAddWindow (payload : List Byte) (s : State) : Host.Outcome State Fault Refusal :=
  .next (s.request (.addWindow payload) 0x11 payload serveAddWindow)

/-! ## DROP-WINDOW (R16, R17) -/

/-- R16: whether an outstanding grant names the entry and lies in the window of this index. -/
def State.grantIn (s : State) (i : Fin 64) (index : Nat) : Bool :=
  s.grantList.any fun g => g.entry == some i && g.window == index

/-- R16: the checks after BAD-ARG and NOT-FOUND. -/
def State.dropRefusal (s : State) (i : Fin 64) : Option Code :=
  if (s.entry i).state ≠ .opened then some .badState
  else if (s.entry i).windows.length ≤ 1 then some .badState
  else if s.grantIn i ((s.entry i).windows.length - 1) then some .badState
  else none

/-- R17: the last window is taken off the entry's list. -/
def Entry.dropWindow (e : Entry) : Entry := { e with windows := e.windows.dropLast }

/-- R16, R17. -/
def serveDropWindow (payload : List Byte) (s : State) : Served :=
  match readTwo payload with
  | none => s.unchanged (refusal .badArg)
  | some number => s.onSurvey number fun i =>
    match s.dropRefusal i, (s.entry i).windows.getLast? with
    | some c, _ => s.unchanged (refusal c)
    | none, none => s.unchanged (refusal .badState)
    | none, some w =>
      let t := s.modifyEntry i Entry.dropWindow
      (t, okAnswer (w.bytes ++ be1 t.freePool))

/-- DROP_WINDOW. -/
def execDropWindow (payload : List Byte) (s : State) : Host.Outcome State Fault Refusal :=
  .next (s.request (.dropWindow payload) 0x12 payload serveDropWindow)

/-! ## Lookups (R19 to R23) -/

/-- R20. -/
def serveFindSurvey (payload : List Byte) (s : State) : Served :=
  match readTwo payload with
  | none => s.unchanged (refusal .badArg)
  | some number => s.onSurvey number fun i => s.unchanged (okAnswer (s.entryReport i))

/-- FIND_SURVEY. -/
def execFindSurvey (payload : List Byte) (s : State) : Host.Outcome State Fault Refusal :=
  .next (s.request (.findSurvey payload) 0x13 payload serveFindSurvey)

/-- R19: the payload of a FIND-BLOCK that found the block. -/
def State.blockReport (s : State) (i : Fin 64) (index : Nat) (w : Window) : List Byte :=
  be1 i ++ be2 ((s.entry i).number.getD 0) ++ be1 (s.entry i).state.code ++ be1 index ++ w.bytes

/-- R19. -/
def serveFindBlock (payload : List Byte) (s : State) : Served :=
  match readFour payload with
  | none => s.unchanged (refusal .badArg)
  | some block =>
    match s.lookup block with
    | .covered i k w => s.unchanged (okAnswer (s.blockReport i k w))
    | .uncovered _ => s.unchanged (refusal .notFound)

/-- FIND_BLOCK. -/
def execFindBlock (payload : List Byte) (s : State) : Host.Outcome State Fault Refusal :=
  .next (s.request (.findBlock payload) 0x14 payload serveFindBlock)

/-- R21. -/
def serveReadEntry (payload : List Byte) (s : State) : Served :=
  match readByte payload with
  | none => s.unchanged (refusal .badArg)
  | some slot =>
    if h : slot < 64 then
      if (s.entry ⟨slot, h⟩).live then s.unchanged (okAnswer (s.entryReport ⟨slot, h⟩))
      else s.unchanged (refusal .notFound)
    else s.unchanged (refusal .badArg)

/-- READ_ENTRY. -/
def execReadEntry (payload : List Byte) (s : State) : Host.Outcome State Fault Refusal :=
  .next (s.request (.readEntry payload) 0x15 payload serveReadEntry)

/-- R23: the lowest live slot greater than s, or from slot 0 upward for 255. -/
def State.nextLive (s : State) (slot : Nat) : Option (Fin 64) :=
  slotList.find? fun i => (s.entry i).live && (slot == 255 || decide (slot < i.val))

/-- R23. -/
def serveNextEntry (payload : List Byte) (s : State) : Served :=
  match readByte payload with
  | none => s.unchanged (refusal .badArg)
  | some slot =>
    if 64 ≤ slot ∧ slot ≠ 255 then s.unchanged (refusal .badArg)
    else
      match s.nextLive slot with
      | none => s.unchanged (refusal .notFound)
      | some i =>
        s.unchanged (okAnswer (be1 i ++ be1 (s.entry i).state.code ++ be2 ((s.entry i).number.getD 0)))

/-- NEXT_ENTRY. -/
def execNextEntry (payload : List Byte) (s : State) : Host.Outcome State Fault Refusal :=
  .next (s.request (.nextEntry payload) 0x16 payload serveNextEntry)

/-! ## RENAME (R24) -/

/-- R24: the label is replaced. -/
def Entry.relabel (label : List Byte) (e : Entry) : Entry := { e with label := label }

/-- R24. -/
def serveRename (payload : List Byte) (s : State) : Served :=
  match readRename payload with
  | none => s.unchanged (refusal .badArg)
  | some (number, label) =>
    if Config.maxLabel < label.length then s.unchanged (refusal .badArg)
    else s.onSurvey number fun i => (s.modifyEntry i (Entry.relabel label), okAnswer [])

/-- RENAME. -/
def execRename (payload : List Byte) (s : State) : Host.Outcome State Fault Refusal :=
  .next (s.request (.rename payload) 0x17 payload serveRename)

end Sys2Proof.Machine
end

