-- ==== Sys2Proof/Machine/Sealing.lean ====
section
/-! DEFINITION. SEAL, VERIFIED, REOPEN, SET-HOLD, RETIRE and RESTORE (R54 to R74). -/

namespace Sys2Proof.Machine

/-- R54, R204: the state answer of an entry as it stands. -/
def State.stateAnswer (s : State) (i : Fin 64) (number : Nat) : Answer :=
  okAnswer (be1 i ++ be2 number ++ be1 (s.entry i).state.code ++ be1 (flag (s.entry i).verify) ++ be1 (s.outstanding i))

/-- R54, R67, R204: the state answer of an entry the request took to FREE. -/
def freedAnswer (i : Fin 64) (number : Nat) : Answer :=
  okAnswer (be1 i ++ be2 number ++ be1 EntryState.free.code ++ be1 0 ++ be1 0)

/-- A state answer formed once the request and its effects have been applied (R54). -/
def State.servedState (i : Fin 64) (number : Nat) (t : State) : Served := (t, t.stateAnswer i number)

/-- Change the state of an entry and nothing else of it. -/
def Entry.withState (state : EntryState) (e : Entry) : Entry := { e with state := state }

/-- R25: verify-pending is cleared. -/
def Entry.unmark (e : Entry) : Entry := { e with verify := false }

/-! ## SEAL (R55, R56) -/

/-- R55, for the entry in this slot. -/
def State.sealAt (i : Fin 64) (number : Nat) (s : State) : Served :=
  match (s.entry i).state with
  | .opened =>
    if s.named i || (s.entry i).verify then (s.modifyEntry i (Entry.withState .closing)).servedState i number
    else (s.sealEntry i).servedState i number
  | .closing => s.servedState i number
  | .free | .sealed | .retiring => s.unchanged (refusal .badState)

/-- R54, R55. -/
def serveSeal (payload : List Byte) (s : State) : Served :=
  match readTwo payload with
  | none => s.unchanged (refusal .badArg)
  | some number => s.onSurvey number fun i => s.sealAt i number

/-- SEAL. -/
def execSeal (payload : List Byte) (s : State) : Host.Outcome State Fault Refusal :=
  .next (s.request (.seal payload) 0x18 payload serveSeal)

/-! ## VERIFIED (R59) -/

/-- R59, for the entry in this slot. -/
def State.verifiedAt (i : Fin 64) (number : Nat) (s : State) : Served :=
  match (s.entry i).state with
  | .opened =>
    if s.named i then s.unchanged (refusal .badState)
    else (s.modifyEntry i Entry.unmark).servedState i number
  | .closing =>
    if s.named i then s.unchanged (refusal .badState)
    else ((s.modifyEntry i Entry.unmark).sealEntry i).servedState i number
  | .free | .sealed | .retiring => s.unchanged (refusal .badState)

/-- R54, R59. -/
def serveVerified (payload : List Byte) (s : State) : Served :=
  match readTwo payload with
  | none => s.unchanged (refusal .badArg)
  | some number => s.onSurvey number fun i => s.verifiedAt i number

/-- VERIFIED. -/
def execVerified (payload : List Byte) (s : State) : Host.Outcome State Fault Refusal :=
  .next (s.request (.verified payload) 0x19 payload serveVerified)

/-! ## REOPEN (R61) -/

/-- R61, for the entry in this slot. -/
def State.reopenAt (i : Fin 64) (number : Nat) (s : State) : Served :=
  match (s.entry i).state with
  | .closing => (s.modifyEntry i (Entry.withState .opened)).servedState i number
  | .free | .opened | .sealed | .retiring => s.unchanged (refusal .badState)

/-- R54, R61. -/
def serveReopen (payload : List Byte) (s : State) : Served :=
  match readTwo payload with
  | none => s.unchanged (refusal .badArg)
  | some number => s.onSurvey number fun i => s.reopenAt i number

/-- REOPEN. -/
def execReopen (payload : List Byte) (s : State) : Host.Outcome State Fault Refusal :=
  .next (s.request (.reopen payload) 0x1A payload serveReopen)

/-! ## SET-HOLD (R64) -/

/-- R64: the deadline becomes the candidate where there is none or it is earlier, and is kept otherwise. So a SET-HOLD of 0 seconds
moves a deadline that has lapsed to the run seconds, which no answer shows (log entry 24). -/
def Entry.extendHold (candidate : Nat) (e : Entry) : Entry :=
  { e with hold := some (match e.hold with
      | none => candidate
      | some d => max d candidate) }

/-- R64, for the entry in this slot. -/
def State.holdAt (i : Fin 64) (seconds : Nat) (s : State) : Served :=
  let t := s.modifyEntry i (Entry.extendHold (holdDeadline s.clock.runSeconds seconds))
  (t, okAnswer (be4 (holdRemaining (t.entry i).hold t.clock.runSeconds)))

/-- R54, R64. -/
def serveSetHold (payload : List Byte) (s : State) : Served :=
  match readHold payload with
  | none => s.unchanged (refusal .badArg)
  | some (number, seconds) => s.onSurvey number fun i => s.holdAt i seconds

/-- SET_HOLD. -/
def execSetHold (payload : List Byte) (s : State) : Host.Outcome State Fault Refusal :=
  .next (s.request (.setHold payload) 0x1B payload serveSetHold)

/-! ## RETIRE (R66 to R68) -/

/-- R66, for the entry in this slot. -/
def State.retireAt (i : Fin 64) (number : Nat) (s : State) : Served :=
  if holdInForce (s.entry i).hold s.clock.runSeconds then s.unchanged (refusal .held)
  else
    match (s.entry i).state with
    | .sealed => (s.clearEntry i, freedAnswer i number)
    | .opened | .closing =>
      if s.named i then
        (s.modifyEntry i (Entry.withState .retiring)).openChanged.servedState i number
      else ((s.clearEntry i).openChanged, freedAnswer i number)
    | .free | .retiring => s.unchanged (refusal .badState)

/-- R54, R66. -/
def serveRetire (payload : List Byte) (s : State) : Served :=
  match readTwo payload with
  | none => s.unchanged (refusal .badArg)
  | some number => s.onSurvey number fun i => s.retireAt i number

/-- RETIRE. -/
def execRetire (payload : List Byte) (s : State) : Host.Outcome State Fault Refusal :=
  .next (s.request (.retire payload) 0x1C payload serveRetire)

/-! ## RESTORE (R71 to R73) -/

/-- The index of the first listed window a check fails for. -/
def firstFailing (fails : Nat → Window → Bool) (ws : List Window) : Option Nat :=
  (ws.zipIdx.find? fun (w, k) => fails k w).map fun (_, k) => k

/-- R72, step 4: the window overlaps a window of a live entry or an earlier window of the list. -/
def State.restoreOverlaps (s : State) (ws : List Window) (k : Nat) (w : Window) : Bool :=
  s.overlapsLive w || (ws.take k).any w.overlaps

/-- A refusal of RESTORE that carries the index of the listed window that failed (R72, R201). -/
def refusalAt (c : Code) (index : Nat) : Answer := { code := c, payload := be1 index }

/-- R71, R72: the first failure gives the answer; `none` where every check passes. -/
def State.restoreRefusal (s : State) (number : Nat) (label : List Byte) (ws : List Window) : Option Answer :=
  if number = 0 ∨ Config.maxLabel < label.length ∨ ws = [] ∨ Config.maxWindows < ws.length ∨
      (ws.any fun w => decide (Config.maxClass < w.cls)) = true then some (refusal .badArg)
  else if (s.findSurvey number).isSome then some (refusal .exists)
  else
    match firstFailing (fun _ w => !w.aligned) ws with
    | some k => some (refusalAt .misaligned k)
    | none =>
      match firstFailing (fun _ w => decide (s.table.mediaLimit < w.last)) ws with
      | some k => some (refusalAt .outOfRange k)
      | none =>
        match firstFailing (s.restoreOverlaps ws) ws with
        | some k => some (refusalAt .overlap k)
        | none => if s.lowestFree.isNone ∨ s.freePool < ws.length then some (refusal .full) else none

/-- R73: the entry an accepted RESTORE builds. -/
def Entry.restoredAs (number openedStamp sealedStamp : Nat) (hold : Option Nat) (label : List Byte) (ws : List Window) :
    Entry :=
  { Entry.cleared with
    state := .sealed, number := some number, label := label, windows := ws, opened := some openedStamp,
    sealed := some sealedStamp, hold := hold }

/-- R73: hold seconds of 0 give no deadline. -/
def restoredHold (runSeconds seconds : Nat) : Option Nat :=
  if seconds = 0 then none else some (holdDeadline runSeconds seconds)

/-- R71 to R73. -/
def serveRestore (payload : List Byte) (s : State) : Served :=
  match readRestore payload with
  | none => s.unchanged (refusal .badArg)
  | some (number, openedStamp, sealedStamp, seconds, label, ws) =>
    match s.restoreRefusal number label ws, s.lowestFree with
    | some a, _ => s.unchanged a
    | none, none => s.unchanged (refusal .full)
    | none, some i =>
      let t := s.setEntry i
        (Entry.restoredAs number openedStamp sealedStamp (restoredHold s.clock.runSeconds seconds) label ws)
      (t, okAnswer (be1 i ++ be1 t.freePool))

/-- RESTORE. -/
def execRestore (payload : List Byte) (s : State) : Host.Outcome State Fault Refusal :=
  .next (s.request (.restore payload) 0x1D payload serveRestore)

end Sys2Proof.Machine
end

