-- ==== Sys2Proof/Machine/Starts.lean ====
section
/-! DEFINITION. The Supply Monitor's events and the three starts: SPRS, the doze timer, RETAIN, the loss of the retained
contents, cold start, warm start and RESTART (R28, R53, R98 to R100, R122 to R124, R147 to R162, R189, R200). -/

namespace Sys2Proof.Machine

/-! ## SPRS (R153) -/

/-- R153, R157: supply present takes the new value, SUPPLY is raised, and the level is evaluated; in DOZE a change to yes leaves
DOZE. A line that reads as it did has not changed. -/
def State.sprsChanges (present : Bool) (s : State) : State :=
  if s.supply.present = present then s
  else
    let woken := if s.supply.mode = .doze ∧ present = true then s.leaveDoze else s
    ((woken.onSupply fun p => { p with present := present }).raise .supply).evaluate s.critical false

/-- SPRS_CHANGE. -/
def execSprsChange (present : Bool) (s : State) : Host.Outcome State Fault Refusal :=
  .next (s.event (State.sprsChanges present))

/-! ## DOZE and RETAIN (R157, R158) -/

/-- R157, R177: the doze timer expires, and the part enters DOZE; the timer runs only while the doze condition holds (log
entry 14). -/
def State.dozeExpiry (s : State) : State :=
  if timerEnded s.supply.dozeTimer ∧ s.dozeCondition = true then s.enterDoze else s

/-- DOZE_TIMER_EXPIRY. -/
def execDozeTimerExpiry (s : State) : Host.Outcome State Fault Refusal := .next (s.event State.dozeExpiry)

/-- R99: the guard stops and closes an open episode; its unretained items are gone (log entry 8). -/
def Guard.retain (g : Guard) : Guard := g.closeEpisode.restart none

/-- R122: the sequencer stops its timer, and a powered one records SUPPLY-LOSS; its state is gone (log entry 8). -/
def Sequencer.retain (q : Sequencer) : Sequencer :=
  { q.toOff with stopCause := if q.state.powered then .supplyLoss else q.stopCause }

/-- R147, R149: the gauge stops; its unretained items are gone (log entry 8). -/
def Gauge.retain (g : Gauge) : Gauge :=
  { g with
    residue := 0, snapPending := false, current := 0, volts := 0, currents := [], emptyRun := 0, fullRun := 0,
    slewCount := 0, runningLength := g.period, timer := none }

/-- R158: VMAIN falls below its working level. The Link Port keeps its target address, for which R190 and R200 give no value in
RETAIN, and takes it anew at the start (log entry 8). Of a transfer that R200 abandons it keeps nothing, so that what the bridge
sends after the start is a transfer of its own (log entry 3). -/
def State.enterRetain (s : State) : State :=
  (((((s.onGuard Guard.retain).onSeq Sequencer.retain).onGauge Gauge.retain).onLink fun l =>
    { l.cleared with acked := false }).onAttention fun a => { a with pending := 0, dozeFlag := false }).onSupply
    fun p => { p with mode := .retain, dozeTimer := none }

/-- ENTER_RETAIN. -/
def execEnterRetain (s : State) : Host.Outcome State Fault Refusal :=
  .next (if s.supply.mode = .retain then s else s.enterRetain)

/-- RETAINED_CONTENTS_LOSS: in RETAIN the store is marked invalid (R152); with VMAIN at its working level the store is fed from
it and nothing is lost. -/
def execRetainedContentsLoss (s : State) : Host.Outcome State Fault Refusal :=
  .next (if s.supply.mode = .retain then s.onSupply fun p => { p with storeValid := false } else s)

/-! ## What the starts share (R28, R53) -/

/-- R28: what the start settling makes of a record: an entry named by a grant is marked, and a RETIRING entry is cleared. -/
def settledRecord (named : Bool) (e : Entry) : Entry :=
  if e.state = .retiring then Entry.cleared else if named then e.mark else e

/-- R28: whether the settling frees an entry, which raises FREED. -/
def State.anyRetiring (s : State) : Bool := s.table.entries.toList.any fun e => e.state == .retiring

/-- R28: the start settling of the Survey Table, against the grant table as the start finds it. -/
def State.startSettling (s : State) : State :=
  let t := s.mapEntries fun i e => settledRecord (s.named i) e
  if s.anyRetiring then t.raise .freed else t

/-- R53: the grant table is emptied; the generations and the timeout are kept. -/
def GrantTable.emptied (g : GrantTable) : GrantTable := { g with slots := Vector.replicate 8 none }

/-- R189: the pending set is emptied before the blocks settle, and the doze flag is clear. -/
def Attention.start (a : Attention) : Attention := { a with pending := 0, dozeFlag := false }

/-! ## Cold start (R160) -/

/-- R160: the cold start: every block at its cold-start values, and the level evaluated from CRITICAL. The lines of the
mechanism and the link clear stand as they are. -/
def State.coldStart (sprs adsel : Bool) (s : State) : State :=
  let c := State.cold sprs adsel s.pins s.freeCount s.pending
  c.evaluate c.critical false

/-- COLD_START: VMAIN reaches its working level, from RETAIN, with the store invalid (R152, R159). -/
def execColdStart (sprs adsel : Bool) (s : State) : Host.Outcome State Fault Refusal :=
  .next (if s.supply.mode = .retain ∧ s.supply.storeValid = false then s.coldStart sprs adsel else s)

/-! ## Warm start (R161) -/

/-- R123: the sequencer begins in CYCLE_WAIT with the target OFF; a cycle delay of 0 ends the wait within the start. -/
def State.sequencerWarm (s : State) : State := (s.onSeq fun q => { q with target := .off }).enterCycleWait

/-- R149: the gauge begins again from the retained Q. -/
def Gauge.warm (g : Gauge) : Gauge :=
  { g with
    residue := 0, uncertain := true, snapPending := true, current := 0, volts := 0, currents := [], emptyRun := 0,
    fullRun := 0, slewCount := 0, runningLength := g.period, timer := some g.period }

/-- R161: the power mode, the start kind, and SPRS as it reads; a changed line raises SUPPLY. -/
def State.supplyWarm (sprs : Bool) (s : State) : State :=
  let t := s.onSupply fun p =>
    { p with mode := .run, startKind := .warm, dozeTimer := none, present := sprs, storeValid := true }
  if s.supply.present = sprs then t else t.raise .supply

/-- R200: the port begins in IDLE and reads ADSEL (R191). Nothing is left of a transfer opened before the start (log entry 3). -/
def Link.start (adsel : Bool) (l : Link) : Link :=
  { l.cleared with address := targetAddress adsel, acked := false }

/-- R28, R53, R99, R123, R149, R161, R189, R200: the warm start. The doze timer stays stopped (R156, R178), where a cycle delay
of 0 lets the settling of the start complete the doze condition too (R155; log entry 22). -/
def State.warmStart (sprs adsel : Bool) (s : State) : State :=
  let blocks := (((s.onAttention Attention.start).startSettling.onGrants GrantTable.emptied).onGuard
    fun g => g.restart (some g.samplePeriod)).onGauge Gauge.warm
  let begun := ((blocks.onLink (Link.start adsel)).supplyWarm sprs).sequencerWarm
  (begun.evaluate s.critical false).raise .restarted

/-- WARM_START: VMAIN reaches its working level, from RETAIN, with the store valid (R152, R159). -/
def execWarmStart (sprs adsel : Bool) (s : State) : Host.Outcome State Fault Refusal :=
  .next (if s.supply.mode = .retain ∧ s.supply.storeValid = true then s.warmStart sprs adsel else s)

/-! ## RESTART (R162) -/

/-- R124: what RESTART makes of the sequencer. -/
def Sequencer.restart (q : Sequencer) : Sequencer :=
  let r := { q with target := .off }
  match q.state with
  | .ready | .draining => r.toUnloading .restart
  | .powering | .spinning => r.toStopping .restart
  | .unloading | .stopping | .cycleWait => r
  | .off => { r with phase := none }

/-- R100: the guard is brought to CALM; an open episode is closed. -/
def Guard.requestRestart (g : Guard) : Guard := g.closeEpisode.restart (some g.samplePeriod)

/-- R28, R53, R100, R124, R150, R162, R189: the RESTART. -/
def State.restart (s : State) : State :=
  let blocks := (((s.onAttention Attention.start).startSettling.onGrants GrantTable.emptied).onGuard
    Guard.requestRestart).onSeq Sequencer.restart
  let supplied := blocks.onSupply fun p => { p with startKind := .request, dozeTimer := none, storeValid := true }
  (supplied.evaluate s.critical false).raise .restarted

/-- R162. -/
def serveRestart (payload : List Byte) (s : State) : Served :=
  match readNothing payload with
  | none => s.unchanged (refusal .badArg)
  | some _ => (s.restart, okAnswer [])

/-- RESTART. -/
def execRestart (payload : List Byte) (s : State) : Host.Outcome State Fault Refusal :=
  .next (s.request (.restart payload) 0x03 payload serveRestart)

end Sys2Proof.Machine
end

