-- ==== Sys2Proof/Machine/Status.lean ====
section
/-! DEFINITION. The Attention Unit's requests and the Time Base's: READ-STATUS, CLEAR-ATTENTION (R183 to R187), READ-CLOCK,
SET-CLOCK and the second step (R170 to R173). -/

namespace Sys2Proof.Machine

/-! ## READ-STATUS (R183, R184, R205) -/

/-- R205: the flags byte of the status report. -/
def State.statusFlags (s : State) : Nat :=
  flag s.supply.lost + 2 * flag s.attnAsserted + 4 * flag s.attention.dozeFlag

/-- R183, R205: the status report. -/
def State.statusReport (s : State) : List Byte :=
  be2 s.attention.pending.toNat ++ be1 (highestLevel s.attention.pending) ++ be1 s.attention.mask ++ be1 s.statusFlags ++
    be1 s.supply.startKind.code ++ be1 s.supply.mode.code ++ [Config.partCode, Config.revision] ++ be1 s.seq.state.code ++
    be1 s.guard.state.code ++ be1 s.supply.level.code ++ be1 (flag s.supply.present)

/-- R184: the doze flag is cleared. -/
def Attention.clearDoze (a : Attention) : Attention := { a with dozeFlag := false }

/-- R183, R184. -/
def serveReadStatus (payload : List Byte) (s : State) : Served :=
  match readNothing payload with
  | none => s.unchanged (refusal .badArg)
  | some _ => (s.onAttention Attention.clearDoze, okAnswer s.statusReport)

/-- READ_STATUS. -/
def execReadStatus (payload : List Byte) (s : State) : Host.Outcome State Fault Refusal :=
  .next (s.request (.readStatus payload) 0x01 payload serveReadStatus)

/-! ## CLEAR-ATTENTION (R185, R187, R203) -/

/-- R185, R203: bits 11 to 14 of the request's cause set must be 0. -/
def causeSetRefused (v : Nat) : Bool := v / 2048 % 16 != 0

/-- R185: the named causes leave the pending set. -/
def Attention.clear (v : Nat) (a : Attention) : Attention :=
  { a with pending := a.pending &&& ~~~(BitVec.ofNat 11 v) }

/-- R185, R203: bit 15 names LOST, which is cleared. -/
def Supply.clearLost (v : Nat) (p : Supply) : Supply := { p with lost := p.lost && decide (v < 32768) }

/-- R185: the effect of a taken CLEAR-ATTENTION. -/
def State.clearAttention (v : Nat) (s : State) : State :=
  (s.onAttention (Attention.clear v)).onSupply (Supply.clearLost v)

/-- R185, R201: the answer of CLEAR-ATTENTION. -/
def State.attentionAnswer (s : State) : Answer :=
  okAnswer (be2 s.attention.pending.toNat ++ be1 (highestLevel s.attention.pending) ++ be1 (flag s.supply.lost))

/-- R185. -/
def serveClearAttention (payload : List Byte) (s : State) : Served :=
  match readTwo payload with
  | none => s.unchanged (refusal .badArg)
  | some v =>
    if causeSetRefused v then s.unchanged (refusal .badArg)
    else (s.clearAttention v, (s.clearAttention v).attentionAnswer)

/-- CLEAR_ATTENTION. -/
def execClearAttention (payload : List Byte) (s : State) : Host.Outcome State Fault Refusal :=
  .next (s.request (.clearAttention payload) 0x02 payload serveClearAttention)

/-! ## The clocks (R170 to R173) -/

/-- R173, R205: the clock report. -/
def Clock.report (c : Clock) : List Byte := be4 c.runSeconds ++ be4 c.driveClock

/-- R173. -/
def serveReadClock (payload : List Byte) (s : State) : Served :=
  match readNothing payload with
  | none => s.unchanged (refusal .badArg)
  | some _ => s.unchanged (okAnswer s.clock.report)

/-- READ_CLOCK. -/
def execReadClock (payload : List Byte) (s : State) : Host.Outcome State Fault Refusal :=
  .next (s.request (.readClock payload) 0x06 payload serveReadClock)

/-- R172: the drive clock takes the value given; the run seconds are not changed. -/
def Clock.setDrive (v : Nat) (c : Clock) : Clock := { c with driveClock := v }

/-- R172. -/
def serveSetClock (payload : List Byte) (s : State) : Served :=
  match readFour payload with
  | none => s.unchanged (refusal .badArg)
  | some v => (s.onClock (Clock.setDrive v), okAnswer (s.clock.setDrive v).report)

/-- SET_CLOCK. -/
def execSetClock (payload : List Byte) (s : State) : Host.Outcome State Fault Refusal :=
  .next (s.request (.setClock payload) 0x07 payload serveSetClock)

/-- R170: the run seconds rise by 1 and stop at 4,294,967,294; the drive clock rises by 1 and wraps. -/
def Clock.secondStep (c : Clock) : Clock :=
  { runSeconds := if c.runSeconds < 4294967294 then c.runSeconds + 1 else c.runSeconds,
    driveClock := (c.driveClock + 1) % 4294967296 }

/-- SECOND_STEP: it acts in every power mode, and on nothing but the two counts (R168, R170); with the store lost the counts
are lost and nothing steps until the cold start (R174). -/
def execSecondStep (s : State) : Host.Outcome State Fault Refusal :=
  .next (if s.supply.storeValid then s.onClock Clock.secondStep else s)

end Sys2Proof.Machine
end

