-- ==== Sys2Proof/Machine/Writes.lean ====
section
/-! DEFINITION. The Write Check Unit: CHECK-WRITE, WRITE-DONE, READ-GRANTS and the expiry of a deadline (R33 to R50). -/

namespace Sys2Proof.Machine

/-- R203: the reasons of a check answer. -/
def reasonNone : Nat := 0
/-- R203: RANGE. -/
def reasonRange : Nat := 1
/-- R203: SEALED. -/
def reasonSealed : Nat := 2
/-- R203: UNMAPPED. -/
def reasonUnmapped : Nat := 3
/-- R203: SHOCK. -/
def reasonShock : Nat := 4
/-- R203: BATTERY. -/
def reasonBattery : Nat := 5
/-- R203: POWER. -/
def reasonPower : Nat := 6

/-- A slot field: the slot, or 0xFF where none applies (R204). -/
def slotByte (slot : Option (Fin 64)) : Nat :=
  match slot with
  | some i => i.val
  | none => 255

/-- R33, R204: a check answer; every outcome of CHECK-WRITE has this layout. -/
def checkAnswer (c : Code) (reason count tag : Nat) (slot : Option (Fin 64)) (window timeout : Nat) : Answer :=
  { code := c,
    payload := be1 reason ++ be2 count ++ be1 tag ++ be1 (slotByte slot) ++ be1 window ++ be2 timeout }

/-- R33: a check answer that carries its outcome alone. -/
def bareCheck (c : Code) : Answer := checkAnswer c reasonNone 0 0 none 0 0

/-- R38: the first hold condition that applies. -/
def State.holdReason (s : State) : Option Nat :=
  if s.guard.permits = false then some reasonShock
  else if s.critical then some reasonBattery
  else if s.seq.state ≠ .ready then some reasonPower
  else none

/-- R38 to R40: a range that would otherwise be granted is held, answered FULL, or granted. -/
def State.grantOrHold (slot : Option (Fin 64)) (window first count : Nat) (s : State) : Served :=
  match s.holdReason, s.lowestFreeGrant with
  | some reason, _ => s.unchanged (checkAnswer .hold reason 0 0 slot window 0)
  | none, none => s.unchanged (bareCheck .full)
  | none, some k =>
    let t := s.issueGrant k slot window first count
    let u := match slot with
      | some i => t.modifyEntry i Entry.addIssued
      | none => t
    let tag := (s.grants.generations[k] + 1).val * 8 + k.val
    (u, checkAnswer .granted reasonNone count tag slot window s.grants.timeout)

/-- R36: the first block lies in a window. -/
def State.checkCovered (i : Fin 64) (index : Nat) (w : Window) (first count : Nat) (s : State) : Served :=
  if w.last < first + count - 1 then
    s.unchanged (checkAnswer .split reasonNone (w.last - first + 1) 0 (some i) index 0)
  else if (s.entry i).state = .opened then s.grantOrHold (some i) index first count
  else s.unchanged (checkAnswer .denied reasonSealed 0 0 (some i) index 0)

/-- R35, R37: the first block lies in no window; the prefix that stays in the gap, where the range does not. -/
def State.gapPrefix (s : State) (next : Option Nat) (first count : Nat) : Option Nat :=
  match next with
  | some b => if b ≤ first + count - 1 then some (b - first) else none
  | none => if s.table.mediaLimit < first + count - 1 then some (s.table.mediaLimit - first + 1) else none

/-- R35, R37: the first block lies in no window. -/
def State.checkUncovered (next : Option Nat) (first count : Nat) (s : State) : Served :=
  match s.gapPrefix next first count with
  | some n => s.unchanged (checkAnswer .split reasonNone n 0 none 0 0)
  | none =>
    if s.table.policy = .deny then s.unchanged (checkAnswer .denied reasonUnmapped 0 0 none 0 0)
    else s.grantOrHold none 0 first count

/-- R34: the check of a range. -/
def State.checkRange (first count : Nat) (s : State) : Served :=
  if count = 0 then s.unchanged (bareCheck .badArg)
  else if s.table.mediaLimit < first then s.unchanged (checkAnswer .denied reasonRange 0 0 none 0 0)
  else
    match s.lookup first with
    | .covered i k w => s.checkCovered i k w first count
    | .uncovered next => s.checkUncovered next first count

/-- R33, R34. -/
def serveCheckWrite (payload : List Byte) (s : State) : Served :=
  match readCheck payload with
  | none => s.unchanged (bareCheck .badArg)
  | some (first, count) => s.checkRange first count

/-- CHECK_WRITE. -/
def execCheckWrite (payload : List Byte) (s : State) : Host.Outcome State Fault Refusal :=
  .next (s.request (.checkWrite payload) 0x20 payload serveCheckWrite)

/-! ## WRITE-DONE (R42, R43) -/

/-- R42: what a result does to the entry the grant names. -/
def doneEffect (result count : Nat) : Entry → Entry :=
  if result = 0 then Entry.addWritten count else Entry.mark

/-- R42: the state answered for the entry the grant named; 0 for an unmapped grant. -/
def State.doneState (s : State) (slot : Option (Fin 64)) : Nat :=
  match slot with
  | some i => (s.entry i).state.code
  | none => 0

/-- R30: the slot a tag names. -/
def tagSlot (tag : Nat) : Fin 8 := Fin.ofNat 8 tag

/-- R42, R43: the outstanding grant of this tag. -/
def State.grantOfTag (s : State) (tag : Nat) : Option Grant :=
  match s.grants.slots[tagSlot tag] with
  | some g => if g.tag = tag then some g else none
  | none => none

/-- R42, R43. -/
def serveWriteDone (payload : List Byte) (s : State) : Served :=
  match readDone payload with
  | none => s.unchanged (refusal .badArg)
  | some (tag, result) =>
    if 1 < result then s.unchanged (refusal .badArg)
    else
      match s.grantOfTag tag with
      | none => s.unchanged (refusal .stale)
      | some g =>
        let t := s.removeGrant (tagSlot tag) g (doneEffect result g.count)
        (t, okAnswer (be1 (slotByte g.entry) ++ be1 (t.doneState g.entry)))

/-- WRITE_DONE. -/
def execWriteDone (payload : List Byte) (s : State) : Host.Outcome State Fault Refusal :=
  .next (s.request (.writeDone payload) 0x21 payload serveWriteDone)

/-! ## READ-GRANTS (R50) -/

/-- R204: a grant record. -/
def Grant.record (g : Grant) : List Byte :=
  be1 g.tag ++ be1 (slotByte g.entry) ++ be1 g.window ++ be4 g.first ++ be2 g.count ++ be2 g.remaining

/-- R50. -/
def serveReadGrants (payload : List Byte) (s : State) : Served :=
  match readNothing payload with
  | none => s.unchanged (refusal .badArg)
  | some _ => s.unchanged (okAnswer (be1 s.grantList.length ++ s.grantList.flatMap Grant.record))

/-- READ_GRANTS. -/
def execReadGrants (payload : List Byte) (s : State) : Host.Outcome State Fault Refusal :=
  .next (s.request (.readGrants payload) 0x22 payload serveReadGrants)

/-! ## Expiry (R44) -/

/-- R44: the deadline of the grant in a slot expires; a free slot has no timer, and a grant issued there since has a deadline of
its own, so no expiry comes from them (R45, R177). -/
def State.expireGrant (k : Fin 8) (s : State) : State :=
  match s.grants.slots[k] with
  | none => s
  | some g => if g.remaining = 0 then (s.raise .expired).removeGrant k g Entry.mark else s

/-- GRANT_DEADLINE_EXPIRY. -/
def execGrantDeadlineExpiry (slot : Fin 8) (s : State) : Host.Outcome State Fault Refusal :=
  .next (s.event (State.expireGrant slot))

end Sys2Proof.Machine
end

