-- ==== Sys2Proof/Machine/Dispatch.lean ====
section
/-! DEFINITION. One arm for each command, each a direct call of its meaning. -/

namespace Sys2Proof.Machine

/-- The effect of a command on everything but the queue of waiting commands. -/
def exec (i : Instr) (s : State) : Host.Outcome State Fault Refusal :=
  match i with
  | .readStatus payload => Sys2Proof.Machine.execReadStatus payload s
  | .clearAttention payload => Sys2Proof.Machine.execClearAttention payload s
  | .restart payload => Sys2Proof.Machine.execRestart payload s
  | .readParam payload => Sys2Proof.Machine.execReadParam payload s
  | .setParam payload => Sys2Proof.Machine.execSetParam payload s
  | .readClock payload => Sys2Proof.Machine.execReadClock payload s
  | .setClock payload => Sys2Proof.Machine.execSetClock payload s
  | .openSurvey payload => Sys2Proof.Machine.execOpenSurvey payload s
  | .addWindow payload => Sys2Proof.Machine.execAddWindow payload s
  | .dropWindow payload => Sys2Proof.Machine.execDropWindow payload s
  | .findSurvey payload => Sys2Proof.Machine.execFindSurvey payload s
  | .findBlock payload => Sys2Proof.Machine.execFindBlock payload s
  | .readEntry payload => Sys2Proof.Machine.execReadEntry payload s
  | .nextEntry payload => Sys2Proof.Machine.execNextEntry payload s
  | .rename payload => Sys2Proof.Machine.execRename payload s
  | .seal payload => Sys2Proof.Machine.execSeal payload s
  | .verified payload => Sys2Proof.Machine.execVerified payload s
  | .reopen payload => Sys2Proof.Machine.execReopen payload s
  | .setHold payload => Sys2Proof.Machine.execSetHold payload s
  | .retire payload => Sys2Proof.Machine.execRetire payload s
  | .restore payload => Sys2Proof.Machine.execRestore payload s
  | .checkWrite payload => Sys2Proof.Machine.execCheckWrite payload s
  | .writeDone payload => Sys2Proof.Machine.execWriteDone payload s
  | .readGrants payload => Sys2Proof.Machine.execReadGrants payload s
  | .readGuard payload => Sys2Proof.Machine.execReadGuard payload s
  | .setTarget payload => Sys2Proof.Machine.execSetTarget payload s
  | .readMechanism payload => Sys2Proof.Machine.execReadMechanism payload s
  | .readGauge payload => Sys2Proof.Machine.execReadGauge payload s
  | .setCharge payload => Sys2Proof.Machine.execSetCharge payload s
  | .malformed bytes => Sys2Proof.Machine.execMalformed bytes s
  | .unknown code payload => Sys2Proof.Machine.execUnknown code payload s
  | .emptyWrite => Sys2Proof.Machine.execEmptyWrite s
  | .addressMatch address dir => Sys2Proof.Machine.execAddressMatch address dir s
  | .answerFormed => Sys2Proof.Machine.execAnswerFormed s
  | .answerRead bytes => Sys2Proof.Machine.execAnswerRead bytes s
  | .linkClear => Sys2Proof.Machine.execLinkClear s
  | .linkClearRelease => Sys2Proof.Machine.execLinkClearRelease s
  | .sampleTimerExpiry => Sys2Proof.Machine.execSampleTimerExpiry s
  | .setupComplete address first second third => Sys2Proof.Machine.execSetupComplete address first second third s
  | .readComplete writeAddress index readAddress data => Sys2Proof.Machine.execReadComplete writeAddress index readAddress data s
  | .settleTimerExpiry => Sys2Proof.Machine.execSettleTimerExpiry s
  | .grantDeadlineExpiry slot => Sys2Proof.Machine.execGrantDeadlineExpiry slot s
  | .supplySettleExpiry => Sys2Proof.Machine.execSupplySettleExpiry s
  | .spinTimeoutExpiry => Sys2Proof.Machine.execSpinTimeoutExpiry s
  | .unloadTimeExpiry => Sys2Proof.Machine.execUnloadTimeExpiry s
  | .spinDownExpiry => Sys2Proof.Machine.execSpinDownExpiry s
  | .cycleDelayExpiry => Sys2Proof.Machine.execCycleDelayExpiry s
  | .drdyAsserted => Sys2Proof.Machine.execDrdyAsserted s
  | .drdyReleased => Sys2Proof.Machine.execDrdyReleased s
  | .periodEnd code volts => Sys2Proof.Machine.execPeriodEnd code volts s
  | .sprsChange present => Sys2Proof.Machine.execSprsChange present s
  | .dozeTimerExpiry => Sys2Proof.Machine.execDozeTimerExpiry s
  | .enterRetain => Sys2Proof.Machine.execEnterRetain s
  | .retainedContentsLoss => Sys2Proof.Machine.execRetainedContentsLoss s
  | .coldStart sprs adsel => Sys2Proof.Machine.execColdStart sprs adsel s
  | .warmStart sprs adsel => Sys2Proof.Machine.execWarmStart sprs adsel s
  | .secondStep => Sys2Proof.Machine.execSecondStep s
  | .wakingTransferEnd => Sys2Proof.Machine.execWakingTransferEnd s

end Sys2Proof.Machine
end

