-- ==== Sys2Proof/Machine/Tick.lean ====
section
/-! DEFINITION. The 1 ms tick of the Time Base (R168, R169, R175, R176), which the table of operations has no row for: it is what
a step does when no command waits (log entry 4). The tick moves the remaining time of every running timer and puts the events
that fall due at it into the queue, where they are taken as commands. -/

namespace Sys2Proof.Machine

/-- R176: a running timer's remaining time falls by 1. -/
def tickTimer (t : Timer) : Timer := t.map fun n => n - 1

/-- R176: whether a timer reaches the end of its time at this tick. -/
def timerDue (t : Timer) : Bool :=
  match t with
  | some n => decide (n ≤ 1)
  | none => false

/-- R32, R176: a grant's remaining time falls by 1. -/
def Grant.tick (g : Grant) : Grant := { g with remaining := g.remaining - 1 }

/-- R95, R176: the guard's timers, and the time spent in FALLING. -/
def Guard.tick (g : Guard) : Guard :=
  { g with
    sampleTimer := tickTimer g.sampleTimer, settle := tickTimer g.settle,
    fallMs := if g.state = .falling then min 65535 (g.fallMs + 1) else g.fallMs }

/-- R115, R176: the phase timer, and the time spent in CYCLE_WAIT up to the length of the wait. -/
def Sequencer.tick (q : Sequencer) : Sequencer :=
  { q with
    phase := tickTimer q.phase,
    waited := if q.state = .cycleWait then min q.cycleDelay (q.waited + 1) else q.waited }

/-- R195: the forming has seen its tick, and what the stretched clock held up goes on after it. -/
def Link.tick (l : Link) : Link := { l with ticked := l.state == .forming, held := [] }

/-- R176: every running timer's remaining time falls by 1. -/
def State.tickTimers (s : State) : State :=
  ((((s.onGrants fun t => { t with slots := t.slots.map fun g => g.map Grant.tick }).onGuard Guard.tick).onSeq
    Sequencer.tick).onGauge fun g => { g with timer := tickTimer g.timer }).onSupply
    fun p => { p with dozeTimer := tickTimer p.dozeTimer }

/-- R104: the expiry of the phase timer, by the state it was started for. -/
def phaseEvent (state : SeqState) : List Instr :=
  match state with
  | .powering => [.supplySettleExpiry]
  | .spinning => [.spinTimeoutExpiry]
  | .unloading => [.unloadTimeExpiry]
  | .stopping => [.spinDownExpiry]
  | .cycleWait => [.cycleDelayExpiry]
  | .off | .ready | .draining => []

/-- The command, if this is so. -/
def dueIf (b : Bool) (l : List Instr) : List Instr := if b then l else []

/-- R44: the grants whose deadlines end at this tick. -/
def State.dueGrants (s : State) : List Instr :=
  (List.finRange 8).flatMap fun k =>
    match s.grants.slots[k] with
    | some g => dueIf (decide (g.remaining ≤ 1)) [.grantDeadlineExpiry k]
    | none => []

/-- R176, R195: the events that fall due at the tick taken in this state; what the converters deliver at a period end is the
world's to say (log entry 6). -/
def State.dueEvents (s : State) : List Instr :=
  dueIf (s.link.state == .forming) [.answerFormed] ++ s.dueGrants ++
    dueIf (timerDue s.guard.sampleTimer) [.sampleTimerExpiry] ++ dueIf (timerDue s.guard.settle) [.settleTimerExpiry] ++
    dueIf (timerDue s.seq.phase) (phaseEvent s.seq.state) ++
    dueIf (timerDue s.gauge.timer) [.periodEnd (Config.senseCode s.freeCount) (Config.senseVolts s.freeCount)] ++
    dueIf (timerDue s.supply.dozeTimer) [.dozeTimerExpiry]

/-- R177: the events of one tick in the order in which they are taken. Any order is possible, and the free value
Config.pickFirst settles it (log entry 5). The fuel is the length of the list. -/
def arrange (fuel count : Nat) (l : List Instr) : List Instr :=
  match fuel, l with
  | fuel + 1, a :: b :: rest =>
    let k := Config.pickFirst count % (rest.length + 2)
    ((a :: b :: rest)[k]?).toList ++ arrange fuel (count + 1) ((a :: b :: rest).eraseIdx k)
  | _, short => short

/-- R169: the tick, in RUN and DOZE; in RETAIN it is stopped. The commands that a stretched clock held up follow the events of the
tick, with which the forming ends (R195, log entry 23). -/
def State.tick (s : State) : State :=
  if s.supply.mode = .retain then s
  else
    let due := s.dueEvents
    { s.tickTimers.onLink Link.tick with
      pending := s.pending ++ arrange due.length s.freeCount due ++ s.link.held, freeCount := s.freeCount + due.length }

end Sys2Proof.Machine
end

