-- ==== Sys2Proof/WellFormed.lean ====
section
/-! DEFINITION. The well-formed commands: those whose operands spell an event of their row. -/

namespace Sys2Proof

/-- Whether a command's operands spell an event of its row: a request payload fits a request frame (R192), a MALFORMED or an
UNKNOWN write is judged so (R194), and a read receives at most six data bytes (R75). -/
def Instr.wellFormed : Instr → Bool
  | .readStatus p | .clearAttention p | .restart p | .readParam p | .setParam p | .readClock p | .setClock p
  | .openSurvey p | .addWindow p | .dropWindow p | .findSurvey p | .findBlock p | .readEntry p | .nextEntry p | .rename p
  | .seal p | .verified p | .reopen p | .setHold p | .retire p | .restore p | .checkWrite p | .writeDone p | .readGrants p
  | .readGuard p | .setTarget p | .readMechanism p | .readGauge p | .setCharge p => decide (p.length ≤ Config.maxPayload)
  | .malformed bytes => decide (Machine.judgeWrite bytes = .malformed)
  | .unknown code p => decide (Machine.judgeWrite (Machine.requestFrame code p) = .unknown)
  | .readComplete _ _ _ data => decide (data.length ≤ 6)
  | .emptyWrite | .addressMatch _ _ | .answerFormed | .answerRead _ | .linkClear | .linkClearRelease
  | .sampleTimerExpiry | .setupComplete _ _ _ _ | .settleTimerExpiry | .grantDeadlineExpiry _ | .supplySettleExpiry
  | .spinTimeoutExpiry | .unloadTimeExpiry | .spinDownExpiry | .cycleDelayExpiry | .drdyAsserted | .drdyReleased
  | .periodEnd _ _ | .sprsChange _ | .dozeTimerExpiry | .enterRetain | .retainedContentsLoss | .coldStart _ _
  | .warmStart _ _ | .secondStep | .wakingTransferEnd => true

end Sys2Proof
end

