-- ==== Sys2Proof/Safety.lean ====
section
/-! DEFINITION. The terms the statements use: when the port hears the bridge, what a served request leaves, and the invariants
of the blocks as the manual's own sentences give them. -/

namespace Sys2Proof.Machine

/-! ## What a command leaves -/

/-- The port acknowledges the bridge and takes what it sends: RUN, with LCLR_N high, no transfer on the bus whose rest it ignores,
and no answer being formed (R191, R195, R198, R199). -/
def State.listens (s : State) : Prop :=
  s.supply.mode = .run ∧ s.pins.lclrN = true ∧ s.link.ignored = false ∧ s.link.state ≠ .waking ∧
    s.link.state ≠ .forming

/-- Everything but the Link Port and the doze timer, which every transfer on the link moves (R155, R156, R190). -/
def State.blocks (s : State) : State :=
  { s with link := State.reset.link, supply := { s.supply with dozeTimer := none } }

/-- The Link Port after a write was judged and its answer fixed (R194, R195). -/
def Link.answering (a : Answer) (l : Link) : Link :=
  { l with
    state := .forming, buffer := [], count := 0, answer := none, forming := some a, ticked := false,
    waiting := none, acked := true }

/-- A command is taken as a request with this answer, and leaves every block as it stands in `u`. The transfer has stopped the
doze timer if the doze condition held (R156). -/
def Serves (c : Instr) (s u : State) (a : Answer) : Prop :=
  ∃ t, exec c s = .next t ∧ t.blocks = u.blocks ∧ t.link = s.link.answering a ∧
    t.supply.dozeTimer = if s.dozeCondition then none else s.supply.dozeTimer

/-- A command is taken as a request and changes no block (R10, R33, R54). -/
def Refuses (c : Instr) (s : State) (a : Answer) : Prop := Serves c s s a

/-- R156: the doze timer follows the doze condition from a state to the next. -/
def State.dozeTimed (s t : State) : Prop :=
  t.supply.dozeTimer =
    if t.dozeCondition = s.dozeCondition then s.supply.dozeTimer
    else if t.dozeCondition then some (t.supply.dozeDelay * 1000) else none

/-- The command leaves the Link Port as it was, every block as in `u`, and the doze timer as R156 gives. -/
def Becomes (c : Instr) (s u : State) : Prop :=
  ∃ t, exec c s = .next t ∧ t.blocks = u.blocks ∧ t.link = s.link ∧ s.dozeTimed t

/-- The request code and the payload of a command that is a request of R201. -/
def requestOf : Instr → Option (Byte × List Byte)
  | .readStatus p => some (0x01, p)
  | .clearAttention p => some (0x02, p)
  | .restart p => some (0x03, p)
  | .readParam p => some (0x04, p)
  | .setParam p => some (0x05, p)
  | .readClock p => some (0x06, p)
  | .setClock p => some (0x07, p)
  | .openSurvey p => some (0x10, p)
  | .addWindow p => some (0x11, p)
  | .dropWindow p => some (0x12, p)
  | .findSurvey p => some (0x13, p)
  | .findBlock p => some (0x14, p)
  | .readEntry p => some (0x15, p)
  | .nextEntry p => some (0x16, p)
  | .rename p => some (0x17, p)
  | .seal p => some (0x18, p)
  | .verified p => some (0x19, p)
  | .reopen p => some (0x1A, p)
  | .setHold p => some (0x1B, p)
  | .retire p => some (0x1C, p)
  | .restore p => some (0x1D, p)
  | .checkWrite p => some (0x20, p)
  | .writeDone p => some (0x21, p)
  | .readGrants p => some (0x22, p)
  | .readGuard p => some (0x30, p)
  | .setTarget p => some (0x38, p)
  | .readMechanism p => some (0x39, p)
  | .readGauge p => some (0x40, p)
  | .setCharge p => some (0x41, p)
  | .malformed _ | .unknown _ _ | .emptyWrite | .addressMatch _ _ | .answerFormed | .answerRead _ | .linkClear
  | .linkClearRelease | .sampleTimerExpiry | .setupComplete _ _ _ _ | .readComplete _ _ _ _ | .settleTimerExpiry
  | .grantDeadlineExpiry _ | .supplySettleExpiry | .spinTimeoutExpiry | .unloadTimeExpiry | .spinDownExpiry
  | .cycleDelayExpiry | .drdyAsserted | .drdyReleased | .periodEnd _ _ | .sprsChange _ | .dozeTimerExpiry
  | .enterRetain | .retainedContentsLoss | .coldStart _ _ | .warmStart _ _ | .secondStep | .wakingTransferEnd => none

/-- The commands that stand for the end of a transfer addressed to the part (log entry 3): a request, a refused write with bytes
that spell its row (R194), a write with no data byte, and a read. -/
def endsTransfer (c : Instr) : Prop :=
  (∃ code payload, requestOf c = some (code, payload)) ∨ (∃ bytes, c = .malformed bytes ∧ judgeWrite bytes = .malformed) ∨
    (∃ code payload, c = .unknown code payload ∧ judgeWrite (requestFrame code payload) = .unknown) ∨ c = .emptyWrite ∨
    ∃ n, c = .answerRead n

/-- R201: the payload length of each request whose length is fixed. -/
def fixedLength (code : Byte) : Option Nat :=
  match code.toNat with
  | 0x01 | 0x03 | 0x06 | 0x22 | 0x30 | 0x39 | 0x40 => some 0
  | 0x04 | 0x15 | 0x16 | 0x38 => some 1
  | 0x02 | 0x12 | 0x13 | 0x18 | 0x19 | 0x1A | 0x1C | 0x21 | 0x41 => some 2
  | 0x07 | 0x14 => some 4
  | 0x05 => some 5
  | 0x1B | 0x20 => some 6
  | 0x11 => some 7
  | _ => none

/-! ## The entry a survey number names (R4, R10) -/

/-- The entry in a slot is live and holds this survey number, which is not 0 and which no other live entry holds. -/
def State.holds (s : State) (i : Fin 64) (number : Nat) : Prop :=
  number ≠ 0 ∧ (s.entry i).state ≠ .free ∧ (s.entry i).number = some number ∧
    ∀ j, j ≠ i → (s.entry j).state ≠ .free → (s.entry j).number ≠ some number

/-- No live entry holds the survey number. -/
def State.unheld (s : State) (number : Nat) : Prop :=
  ∀ j, (s.entry j).state ≠ .free → (s.entry j).number ≠ some number

/-- The slot is the lowest-numbered slot in FREE (R3). -/
def State.isLowestFree (s : State) (i : Fin 64) : Prop :=
  (s.entry i).state = .free ∧ ∀ j, j < i → (s.entry j).state ≠ .free

/-- R6: two windows share a block. -/
def Window.share (w v : Window) : Prop :=
  ∃ b, w.base ≤ b ∧ b < w.base + 2 ^ (w.cls + 4) ∧ v.base ≤ b ∧ b < v.base + 2 ^ (v.cls + 4)

/-- R6: a window shares a block with a window of a live entry. -/
def State.shares (s : State) (w : Window) : Prop :=
  ∃ j v, (s.entry j).state ≠ .free ∧ v ∈ (s.entry j).windows ∧ w.share v

/-- R5: the base is a whole multiple of the length. -/
def Window.fits (w : Window) : Prop := w.base % 2 ^ (w.cls + 4) = 0

/-- R5: the last block is at or below the media limit. -/
def Window.within (w : Window) (limit : Nat) : Prop := w.base + 2 ^ (w.cls + 4) - 1 ≤ limit

/-- The window of this index of a live entry covers a block, and no other live window does (R18). -/
def State.coveredBy (s : State) (block : Nat) (i : Fin 64) (k : Nat) (w : Window) : Prop :=
  (s.entry i).state ≠ .free ∧ (s.entry i).windows[k]? = some w ∧ w.base ≤ block ∧ block < w.base + 2 ^ (w.cls + 4) ∧
    ∀ j l v, (s.entry j).state ≠ .free → (s.entry j).windows[l]? = some v → v.base ≤ block →
      block < v.base + 2 ^ (v.cls + 4) → j = i ∧ l = k

/-- No live window covers a block. -/
def State.uncovered (s : State) (block : Nat) : Prop :=
  ∀ j v, (s.entry j).state ≠ .free → v ∈ (s.entry j).windows → ¬ (v.base ≤ block ∧ block < v.base + 2 ^ (v.cls + 4))

/-- An outstanding grant names the entry (R2). -/
def State.hasGrant (s : State) (i : Fin 64) : Prop :=
  ∃ (k : Fin 8) (g : Grant), s.grants.slots[k] = some g ∧ g.entry = some i

/-- R34, steps 1 to 4: the range lies in one window of an OPEN entry, or in an unmapped gap under ALLOW, and what a check answer
gives as its entry slot and window index. -/
def State.mayWrite (s : State) (first count : Nat) (slot : Option (Fin 64)) (window : Nat) : Prop :=
  count ≠ 0 ∧ first ≤ s.table.mediaLimit ∧
    ((∃ i w, slot = some i ∧ s.coveredBy first i window w ∧ first + count ≤ w.base + 2 ^ (w.cls + 4) ∧
        (s.entry i).state = .opened) ∨
      (slot = none ∧ window = 0 ∧ s.uncovered first ∧ first + count - 1 ≤ s.table.mediaLimit ∧
        s.table.policy = .allow ∧
        ∀ j v, (s.entry j).state ≠ .free → v ∈ (s.entry j).windows → first < v.base → first + count ≤ v.base))

/-- R38: the first hold reason that applies (R203: SHOCK 4, BATTERY 5, POWER 6). -/
def State.holdsFor (s : State) (reason : Nat) : Prop :=
  let shock := s.guard.state = .watch ∨ s.guard.state = .falling ∨ s.guard.state = .settle ∨
    (s.guard.state = .blind ∧ s.guard.blindPolicy = .hold)
  let battery := s.supply.level = .critical ∧ s.supply.present = false
  (shock ∧ reason = 4) ∨ (¬ shock ∧ battery ∧ reason = 5) ∨ (¬ shock ∧ ¬ battery ∧ s.seq.state ≠ .ready ∧ reason = 6)

/-- R47, R112: a grant table left empty releases a DRAINING sequencer. -/
def State.released (s : State) : State :=
  if s.seq.state = .draining ∧ ∀ k : Fin 8, s.grants.slots[k] = none then
    { s with
      seq :=
        { s.seq with
          state := .unloading, phase := some s.seq.unloadTime, waited := 0,
          stopCause := if s.seq.target = .off then .target else .battery } }
  else s

/-- R46: the entry a removed grant named is settled: FREE and FREED from RETIRING, SEALED with the effects of R56 from CLOSING,
where no grant names it any longer. -/
def Settles (i : Fin 64) (s u : State) : Prop :=
  (s.hasGrant i → u = s) ∧
  (¬ s.hasGrant i → (s.entry i).state = .retiring → u = (s.setEntry i Entry.cleared).raise .freed) ∧
  (¬ s.hasGrant i → (s.entry i).state = .closing → (s.entry i).verify = false →
    u = (((s.modifyEntry i fun e => { e with state := .sealed, sealed := some s.clock.driveClock }).openChanged).raise
      .sealed)) ∧
  (¬ s.hasGrant i → (s.entry i).state = .closing → (s.entry i).verify = true → u = s) ∧
  ((s.entry i).state ≠ .retiring → (s.entry i).state ≠ .closing → u = s)

/-- R75, R83, R85: the sample the data bytes of a read give under the thresholds in force: each axis the signed 16-bit value
divided by 16 and rounded down, m2 the sum of the squares, and the class by the squared thresholds. -/
def Sample.measures (p : Sample) (ff fi : Nat) (data : List Byte) : Prop :=
  (∃ xh xl yh yl zh zl rest, data = xh :: xl :: yh :: yl :: zh :: zl :: rest ∧
    16 * p.x ≤ (xh ++ xl).toInt ∧ (xh ++ xl).toInt < 16 * p.x + 16 ∧
    16 * p.y ≤ (yh ++ yl).toInt ∧ (yh ++ yl).toInt < 16 * p.y + 16 ∧
    16 * p.z ≤ (zh ++ zl).toInt ∧ (zh ++ zl).toInt < 16 * p.z + 16) ∧
  (p.m2 : Int) = p.x * p.x + p.y * p.y + p.z * p.z ∧
  (fi * fi < p.m2 → p.cls = .impact) ∧
  (p.m2 ≤ fi * fi → p.m2 < ff * ff → p.cls = .low) ∧
  (p.m2 ≤ fi * fi → ff * ff ≤ p.m2 → p.cls = .normal)

/-- R165, R166: what a start's evaluation makes of the level in this state, with Q and n_open as the start's settling left them
(R159). -/
def State.startLevel (before : Level) (t : State) : Level :=
  let thr := t.supply.rPark + (t.nOpen + 1) * t.supply.rEntry
  match before with
  | .ample => if t.gauge.q < t.supply.rPark then .critical else if t.gauge.q < thr then .low else .ample
  | .low => if t.gauge.q < t.supply.rPark then .critical else if thr + t.supply.hyst ≤ t.gauge.q then .ample else .low
  | .critical =>
    if thr + t.supply.hyst ≤ t.gauge.q then .ample
    else if t.supply.rPark + t.supply.hyst ≤ t.gauge.q then .low
    else .critical

/-- R179, R180: the commands that may raise each cause: those whose rules name it, where a request may seal an entry, change the
level or end a wait. -/
def Cause.raisedBy (cause : Cause) (c : Instr) : Bool :=
  match cause, c with
  | .fall, .readComplete _ _ _ _ | .knock, .readComplete _ _ _ _ => true
  | .sensor, .readComplete _ _ _ _ | .sensor, .setupComplete _ _ _ _ | .sensor, .sampleTimerExpiry => true
  | .settled, .settleTimerExpiry => true
  | .expired, .grantDeadlineExpiry _ => true
  | .supply, .sprsChange _ | .supply, .warmStart _ _ => true
  | .restarted, .coldStart _ _ | .restarted, .warmStart _ _ | .restarted, .restart _ => true
  | .freed, .writeDone _ | .freed, .grantDeadlineExpiry _ | .freed, .warmStart _ _ | .freed, .restart _ => true
  | .sealed, .verified _ | .sealed, .writeDone _ => true
  | .mechanism, .supplySettleExpiry | .mechanism, .spinTimeoutExpiry | .mechanism, .spinDownExpiry
  | .mechanism, .cycleDelayExpiry | .mechanism, .drdyAsserted | .mechanism, .drdyReleased | .mechanism, .setParam _
  | .mechanism, .warmStart _ _ => true
  | .battery, .periodEnd _ _ | .battery, .setCharge _ | .battery, .setParam _ | .battery, .openSurvey _
  | .battery, .seal _ | .battery, .verified _ | .battery, .retire _ | .battery, .writeDone _ | .battery, .sprsChange _
  | .battery, .warmStart _ _ | .battery, .restart _ => true
  | _, _ => false

/-- The highest pending level (R179): the largest level among the pending causes, or 0. -/
def State.highest (s : State) (level : Nat) : Prop :=
  (∀ c, s.isPending c = true → c.level ≤ level) ∧
    ((∃ c, s.isPending c = true ∧ c.level = level) ∨ (level = 0 ∧ ∀ c, s.isPending c = false))

/-! ## Parameters (R206) -/

/-- The parameters of R206 with their numbers and the values in force, in the unit of the table. -/
def State.parameterTable (s : State) : List (Byte × Nat) :=
  [(0x01, s.table.mediaLimit), (0x02, s.table.policy.code), (0x08, s.grants.timeout), (0x10, s.guard.samplePeriod),
   (0x11, s.guard.ff), (0x12, s.guard.fi), (0x13, s.guard.nf), (0x14, s.guard.settleTime),
   (0x15, s.guard.blindPolicy.code), (0x18, s.seq.supplySettle), (0x19, s.seq.spinTimeout), (0x1A, s.seq.unloadTime),
   (0x1B, s.seq.spinDown), (0x1C, s.seq.cycleDelay), (0x20, s.gauge.period), (0x21, s.gauge.scale),
   (0x22, s.gauge.capacity), (0x23, s.gauge.vEmpty), (0x24, s.gauge.vFull), (0x25, s.gauge.taper),
   (0x26, s.gauge.slewStep), (0x28, s.supply.rPark / 1000), (0x29, s.supply.rEntry / 1000),
   (0x2A, s.supply.hyst / 1000), (0x2B, s.supply.dozeDelay), (0x30, s.attention.mask)]

/-- R84, R126, R206: what SET-PARAM takes for each parameter: the value clamped to the range, with the parameter's own
adjustment. -/
def State.taken (s : State) (n : Byte) (v : Nat) : Option Nat :=
  let clamp (lo hi : Nat) := max lo (min hi v)
  match n.toNat with
  | 0x01 => some (clamp 15 4294967295)
  | 0x02 => some (clamp 0 1)
  | 0x08 => some (clamp 100 60000)
  | 0x10 => some (clamp 1 20)
  | 0x11 => some (min (clamp 0 2047) (s.guard.fi - 1))
  | 0x12 => some (max (clamp 1 2047) (s.guard.ff + 1))
  | 0x13 => some (clamp 1 255)
  | 0x14 => some (clamp 50 5000)
  | 0x15 => some (clamp 0 1)
  | 0x18 => some (clamp 10 500)
  | 0x19 => some (clamp 500 10000)
  | 0x1A => some (clamp 50 1000)
  | 0x1B => some (clamp 100 5000)
  | 0x1C => some (clamp 0 10000)
  | 0x20 => some (clamp 100 1000 - clamp 100 1000 % 50)
  | 0x21 => some (clamp 1 1000)
  | 0x22 => some (clamp 100 20000)
  | 0x23 => some (clamp 2500 3600)
  | 0x24 => some (clamp 3700 4400)
  | 0x25 => some (clamp 10 1000)
  | 0x26 => some (clamp 1 50)
  | 0x28 => some (clamp 0 1000)
  | 0x29 => some (clamp 0 500)
  | 0x2A => some (clamp 0 200)
  | 0x2B => some (clamp 1 600)
  | 0x30 => some (clamp 0 7)
  | _ => none

/-- R7, R8, R31, R76, R84, R86, R82, R119, R126, R138, R156, R164, R181, R206: the state after a SET-PARAM that took this value: the
parameter has it, with the owning rule's effects. -/
def State.withParam (s : State) (n : Byte) (v : Nat) : State :=
  match n.toNat with
  | 0x01 => { s with table := { s.table with mediaLimit := v } }
  | 0x02 => { s with table := { s.table with policy := if v = 0 then .allow else .deny } }
  | 0x08 => { s with grants := { s.grants with timeout := v } }
  | 0x10 => { s with guard := { s.guard with samplePeriod := v, sampleTimer := some v } }
  | 0x11 => { s with guard := { s.guard with ff := v } }
  | 0x12 => { s with guard := { s.guard with fi := v } }
  | 0x13 => { s with guard := { s.guard with nf := v, run := min s.guard.run (v - 1) } }
  | 0x14 => { s with guard := { s.guard with settleTime := v } }
  | 0x15 => State.powerUpCheck { s with guard := { s.guard with blindPolicy := if v = 0 then .proceed else .hold } }
  | 0x18 => { s with seq := { s.seq with supplySettle := v } }
  | 0x19 => { s with seq := { s.seq with spinTimeout := v } }
  | 0x1A => { s with seq := { s.seq with unloadTime := v } }
  | 0x1B => { s with seq := { s.seq with spinDown := v } }
  | 0x1C => { s with seq := { s.seq with cycleDelay := v } }
  | 0x20 => { s with gauge := { s.gauge with period := v } }
  | 0x21 => { s with gauge := { s.gauge with scale := v } }
  | 0x22 =>
    let q := min s.gauge.q (v * 1000)
    State.evaluate s.critical false { s with
      gauge := { s.gauge with
        capacity := v, q := q, residue := if v * 1000 < s.gauge.q then 0 else s.gauge.residue,
        s := q * 1000 / (v * 1000), p := q * 1000 / (v * 1000), slewCount := 0 } }
  | 0x23 => { s with gauge := { s.gauge with vEmpty := v } }
  | 0x24 => { s with gauge := { s.gauge with vFull := v } }
  | 0x25 => { s with gauge := { s.gauge with taper := v } }
  | 0x26 => { s with gauge := { s.gauge with slewStep := v } }
  | 0x28 => State.evaluate s.critical false { s with supply := { s.supply with rPark := v * 1000 } }
  | 0x29 => State.evaluate s.critical false { s with supply := { s.supply with rEntry := v * 1000 } }
  | 0x2A => State.evaluate s.critical false { s with supply := { s.supply with hyst := v * 1000 } }
  | 0x2B => { s with supply := { s.supply with dozeDelay := v } }
  | 0x30 => { s with attention := { s.attention with mask := v } }
  | _ => s

/-! ## Invariants -/

/-- R1: a FREE record is cleared; a live one holds 1 to 8 windows, a survey number, a label of at most 16 bytes, counters within
their tops, and a sealed stamp exactly in SEALED. -/
def Entry.inOrder (e : Entry) : Prop :=
  if e.state = .free then e = Entry.cleared
  else
    (∃ n, e.number = some n ∧ 1 ≤ n ∧ n ≤ 65535) ∧ e.label.length ≤ 16 ∧ 1 ≤ e.windows.length ∧ e.windows.length ≤ 8 ∧
      e.opened.isSome = true ∧ (e.sealed.isSome = true ↔ e.state = .sealed) ∧ e.issued ≤ 65535 ∧
      e.written ≤ 4294967295 ∧ e.jolts ≤ 255 ∧ ∀ d, e.hold = some d → d ≤ 4294967295

/-- R1, R4, R5, R6: the Survey Table and its pool are in order. -/
def State.tableInOrder (s : State) : Prop :=
  (∀ i, (s.entry i).inOrder) ∧
  (∀ (i j : Fin 64) (n : Nat), i ≠ j → (s.entry i).number = some n → (s.entry j).number ≠ some n) ∧
  (∀ i w, w ∈ (s.entry i).windows → w.cls ≤ 19 ∧ w.fits ∧ w.within s.table.mediaLimit) ∧
  (∀ (i j : Fin 64) (k l : Nat) (w v : Window), (s.entry i).windows[k]? = some w → (s.entry j).windows[l]? = some v →
    w.share v → i = j ∧ k = l) ∧
  s.heldSlots ≤ 192 ∧ s.table.mediaLimit ≤ 4294967295

/-- R29, R30, R56: every grant carries its slot's tag, lies inside the window it names of an entry in OPEN, CLOSING or
RETIRING, and the waiting states of an entry are accounted for by its grants and its mark. -/
def State.grantsInOrder (s : State) : Prop :=
  (∀ (k : Fin 8) g, s.grants.slots[k] = some g →
    g.tag = (s.grants.generations[k]).val * 8 + k.val ∧ 1 ≤ g.count ∧ g.count ≤ 65535 ∧ (g.entry = none → g.window = 0) ∧
      ∀ i, g.entry = some i →
        ((s.entry i).state = .opened ∨ (s.entry i).state = .closing ∨ (s.entry i).state = .retiring) ∧
        ∃ w, (s.entry i).windows[g.window]? = some w ∧ w.base ≤ g.first ∧ g.first + g.count ≤ w.base + 2 ^ (w.cls + 4)) ∧
  (∀ i, (s.entry i).state = .retiring → s.hasGrant i) ∧
  (∀ i, (s.entry i).state = .sealed → ¬ s.hasGrant i ∧ (s.entry i).verify = false) ∧
  (∀ i, (s.entry i).state = .closing → s.hasGrant i ∨ (s.entry i).verify = true)

/-- R76, R80, R84, R87, R94, R95: the guard's thresholds, counters, timers and episode agree with its state. -/
def Guard.inOrder (g : Guard) : Prop :=
  g.ff < g.fi ∧ 1 ≤ g.nf ∧ g.run < g.nf ∧ (g.state = .calm → g.run = 0) ∧ (g.state = .blind → g.run = 0) ∧
    g.misses ≤ 3 ∧ (g.misses = 3 ↔ g.state = .blind) ∧ (g.settle.isSome = true ↔ g.state = .settle) ∧
    (g.episode.isOpen = true ↔ g.state = .falling ∨ g.state = .settle) ∧ g.falls ≤ 65535 ∧ g.knocks ≤ 65535 ∧
    g.episode.duration ≤ 65535 ∧ g.episode.falls ≤ 255

/-- R98, R99: outside RUN the guard does not sample and has no transfer in flight, and it stands in CALM: in DOZE by R98, in RETAIN
by the model's choice (log entry 8). -/
def State.guardInOrder (s : State) : Prop :=
  s.guard.inOrder ∧
    (s.supply.mode ≠ .run → s.guard.state = .calm ∧ s.guard.sampleTimer = none ∧ s.guard.transfer = .none)

/-- R91, R104, R106, R107, R112, R118: the sequencer's state against its timer, its target, its latch, off demand, the grant
table and the guard. -/
def State.sequencerInOrder (s : State) : Prop :=
  (s.seq.target = .on → s.seq.fault = .clear) ∧
  (s.seq.state = .off ∨ s.seq.state = .ready ∨ s.seq.state = .draining → s.seq.phase = none) ∧
  (s.seq.state = .powering ∨ s.seq.state = .spinning → s.critical = false ∧ s.seq.phase.isSome = true) ∧
  (s.seq.state = .unloading ∨ s.seq.state = .stopping ∨ s.seq.state = .cycleWait → s.seq.phase.isSome = true) ∧
  (s.seq.state ≠ .cycleWait → s.seq.waited = 0) ∧
  (s.seq.state = .ready → s.offDemand = false) ∧
  (s.seq.state = .draining → s.offDemand = true ∧ s.grantsEmpty = false) ∧
  (s.guard.state = .falling → s.seq.state ≠ .powering ∧ s.seq.state ≠ .spinning ∧ s.seq.state ≠ .ready ∧
    s.seq.state ≠ .draining) ∧
  (s.supply.mode ≠ .retain → s.seq.state = .off → s.precondition = false)

/-- R125, R126, R130 to R135, R141: the gauge's items lie in their ranges, and S is what Q and Cf give. -/
def Gauge.inOrder (g : Gauge) : Prop :=
  100 ≤ g.capacity ∧ g.capacity ≤ 20000 ∧ g.vEmpty ≤ 3600 ∧ 3700 ≤ g.vFull ∧ g.q ≤ g.capacity * 1000 ∧
    g.s = g.q * 1000 / (g.capacity * 1000) ∧ g.s ≤ 1000 ∧ g.p ≤ 1000 ∧ -3599999 ≤ g.residue ∧ g.residue ≤ 3599999 ∧
    g.currents.length ≤ 4 ∧ g.emptyRun < 3 ∧ g.fullRun < 8 ∧ g.slewCount < 4 ∧ (g.emptyRun = 0 ∨ g.fullRun = 0)

/-- R165: while the level is AMPLE, Q is at least R_park + (n_open + 1) × R_entry. -/
def State.reserveInOrder (s : State) : Prop :=
  s.supply.level = .ample → s.supply.rPark + (s.nOpen + 1) * s.supply.rEntry ≤ s.gauge.q

/-- R32, R98, R122, R154 to R157, R178: in DOZE the disk is down, no grant is outstanding and the guard is stopped in CALM; the
doze timer runs only while the doze condition holds, and it is stopped while that condition holds only since a warm start that
completed it, with the cycle delay 0 (log entry 22). -/
def State.dozeInOrder (s : State) : Prop :=
  (s.supply.mode = .doze → s.supply.present = false ∧ s.seq.state = .off ∧ s.grantsEmpty = true ∧
    s.guard.state = .calm ∧ s.guard.sampleTimer = none ∧ s.guard.transfer = .none ∧ s.link.state = .idle) ∧
  (s.supply.dozeTimer.isSome = true → s.dozeCondition = true) ∧
  (s.dozeCondition = true → s.supply.dozeTimer = none → s.supply.startKind = .warm ∧ s.seq.cycleDelay = 0)

end Sys2Proof.Machine
end

