-- ==== Sys2Proof/Certificates/Slice0/Obligations.lean ====
section
/-! DEFINITION. The statements for the provers, in the order of the chapters. A statement about a request says what the request
does when the port hears it (RUN, LCLR_N high, no answer being formed); what happens to one in FORMING, in DOZE, in RETAIN, with
LCLR_N low or ignored is said once for all requests. `Serves c s u a` reads: the request `c` completes from `s`, every block is then as in `u`, and the answer being formed
is `a`. -/

open Sys2Proof Sys2Proof.Machine

/-! ## The machine -/

/-- The command at the front of the queue is taken, with the queue's rest. -/
def Obligations.StepTakesTheFrontCommand : Prop :=
  ∀ (c : Instr) (rest : List Instr) (s : State), step { s with pending := c :: rest } = exec c { s with pending := rest }

/-- Every command completes from every state, and moves neither the queue nor the count of free values. That an event which
cannot happen in a state leaves it unchanged is the model's reading (log entry 11). -/
def Obligations.EveryCommandCompletes : Prop :=
  ∀ (c : Instr) (s : State), ∃ t, exec c s = .next t ∧ t.pending = s.pending ∧ t.freeCount = s.freeCount

/-- On an empty queue the tick passes, in RUN and DOZE (log entry 4 says that this is what an empty queue means; R169 and R176
give the tick): every running timer's remaining time falls by 1, the time spent in FALLING and in CYCLE_WAIT is measured (R95,
R115), no other state of the blocks moves, and the events due, each once, and nothing else join the queue: the expiries of
this tick and, in FORMING, the end of the forming, in an order the manual leaves open (log entry 5). An answer being formed
has then seen its tick (R195), and the commands of the bridge that the stretched clock held up follow those events in their
order (log entry 23). In RETAIN nothing moves. The time spent in FALLING is the model's count fallMs, one for each tick in
FALLING, at most 65,535 (log entry 9). -/
def Obligations.EmptyQueueIsTheTick : Prop :=
  ∀ s : State, s.pending = [] →
    (s.supply.mode = .retain → step s = .next s) ∧
    (s.supply.mode ≠ .retain → ∃ t due, step s = .next t ∧ t.pending = due ++ s.link.held ∧
      t.table = s.table ∧ t.attention = s.attention ∧ t.clock = s.clock ∧ t.pins = s.pins ∧
      t.link = { s.link with ticked := decide (s.link.state = .forming), held := [] } ∧
      t.grants.generations = s.grants.generations ∧ t.grants.timeout = s.grants.timeout ∧
      (∀ k : Fin 8, t.grants.slots[k] = (s.grants.slots[k]).map fun g => { g with remaining := g.remaining - 1 }) ∧
      t.guard = { s.guard with
        sampleTimer := s.guard.sampleTimer.map (· - 1), settle := s.guard.settle.map (· - 1),
        fallMs := if s.guard.state = .falling then min 65535 (s.guard.fallMs + 1) else s.guard.fallMs } ∧
      t.seq = { s.seq with
        phase := s.seq.phase.map (· - 1),
        waited := if s.seq.state = .cycleWait then min s.seq.cycleDelay (s.seq.waited + 1) else s.seq.waited } ∧
      t.gauge = { s.gauge with timer := s.gauge.timer.map (· - 1) } ∧
      t.supply = { s.supply with dozeTimer := s.supply.dozeTimer.map (· - 1) } ∧
      (Instr.sampleTimerExpiry ∈ due ↔ ∃ n, s.guard.sampleTimer = some n ∧ n ≤ 1) ∧
      (Instr.settleTimerExpiry ∈ due ↔ ∃ n, s.guard.settle = some n ∧ n ≤ 1) ∧
      (∀ k : Fin 8, Instr.grantDeadlineExpiry k ∈ due ↔ ∃ g, s.grants.slots[k] = some g ∧ g.remaining ≤ 1) ∧
      (Instr.supplySettleExpiry ∈ due ↔ s.seq.state = .powering ∧ ∃ n, s.seq.phase = some n ∧ n ≤ 1) ∧
      (Instr.spinTimeoutExpiry ∈ due ↔ s.seq.state = .spinning ∧ ∃ n, s.seq.phase = some n ∧ n ≤ 1) ∧
      (Instr.unloadTimeExpiry ∈ due ↔ s.seq.state = .unloading ∧ ∃ n, s.seq.phase = some n ∧ n ≤ 1) ∧
      (Instr.spinDownExpiry ∈ due ↔ s.seq.state = .stopping ∧ ∃ n, s.seq.phase = some n ∧ n ≤ 1) ∧
      (Instr.cycleDelayExpiry ∈ due ↔ s.seq.state = .cycleWait ∧ ∃ n, s.seq.phase = some n ∧ n ≤ 1) ∧
      ((∃ code volts, Instr.periodEnd code volts ∈ due) ↔ ∃ n, s.gauge.timer = some n ∧ n ≤ 1) ∧
      (Instr.dozeTimerExpiry ∈ due ↔ ∃ n, s.supply.dozeTimer = some n ∧ n ≤ 1) ∧
      (Instr.answerFormed ∈ due ↔ s.link.state = .forming) ∧
      due.Nodup ∧
      (∀ code volts code' volts', Instr.periodEnd code volts ∈ due → Instr.periodEnd code' volts' ∈ due →
        code = code' ∧ volts = volts') ∧
      (∀ c ∈ due, (∃ k, c = .grantDeadlineExpiry k) ∨ (∃ code volts, c = .periodEnd code volts) ∨
        c ∈ [Instr.answerFormed, .sampleTimerExpiry, .settleTimerExpiry, .supplySettleExpiry, .spinTimeoutExpiry,
          .unloadTimeExpiry, .spinDownExpiry, .cycleDelayExpiry, .dozeTimerExpiry]))

/-! ## The Link Port -/

/-- R194, R201: a write whose count is below 2, whose length byte is above 80 or disagrees with the count is MALFORMED; a
sound frame whose code is not in the table is UNKNOWN; neither changes a block. And: R10, R33, R42, R54, R59, R66, R71, R97,
R105, R121, R137, R145, R162, R172, R173, R183, R185, R201, R206, R207: a payload of another length than the request's fields
call for is refused BAD-ARG and changes no block; CHECK-WRITE gives the refusal in a check answer. The fields of that check
answer are the model's reading of R33 (log entry 15). -/
def Obligations.BadFramesAndLengthsAreRefused : Prop :=
  (∀ s : State, s.listens →
    (∀ bytes : List Byte, bytes ≠ [] →
      (bytes.length < 2 ∨ ∃ n, bytes[1]? = some n ∧ (80 < n.toNat ∨ bytes.length ≠ 2 + n.toNat)) →
      Refuses (.malformed bytes) s { code := .malformed, payload := [] }) ∧
    (∀ (code : Byte) (payload : List Byte), payload.length ≤ 80 →
      ¬ (0x01 ≤ code.toNat ∧ code.toNat ≤ 0x07) → ¬ (0x10 ≤ code.toNat ∧ code.toNat ≤ 0x1D) →
      ¬ (0x20 ≤ code.toNat ∧ code.toNat ≤ 0x22) → code ≠ 0x30 → code ≠ 0x38 → code ≠ 0x39 → code ≠ 0x40 → code ≠ 0x41 →
      Refuses (.unknown code payload) s { code := .unknown, payload := [] }) ∧
    (∀ (c : Instr) (code : Byte) (payload : List Byte), requestOf c = some (code, payload) → 80 < payload.length →
      Refuses c s { code := .malformed, payload := [] })) ∧
  (∀ s : State, s.listens →
    (∀ (c : Instr) (code : Byte) (payload : List Byte) (n : Nat), requestOf c = some (code, payload) →
      payload.length ≤ 80 → fixedLength code = some n → payload.length ≠ n → code ≠ 0x20 →
      Refuses c s { code := .badArg, payload := [] }) ∧
    (∀ payload : List Byte, payload.length ≤ 80 → payload.length ≠ 6 →
      Refuses (.checkWrite payload) s { code := .badArg, payload := [0, 0, 0, 0, 0xFF, 0, 0, 0] }) ∧
    (∀ payload : List Byte, payload.length ≤ 80 → (∀ n, payload[7]? = some n → payload.length ≠ 8 + n.toNat) →
      Refuses (.openSurvey payload) s { code := .badArg, payload := [] }) ∧
    (∀ payload : List Byte, payload.length ≤ 80 → (∀ n, payload[2]? = some n → payload.length ≠ 3 + n.toNat) →
      Refuses (.rename payload) s { code := .badArg, payload := [] }) ∧
    (∀ payload : List Byte, payload.length ≤ 80 →
      (∀ n w, payload[14]? = some n → payload[15 + n.toNat]? = some w →
        payload.length ≠ 16 + n.toNat + 5 * w.toNat) →
      Refuses (.restore payload) s { code := .badArg, payload := [] }))

/-- R191, R200: in RETAIN and while LCLR_N is low no transfer of the bridge is acknowledged, and none does anything else: no
request, refused write, empty write or read, each of which stands for its whole transfer (log entry 3). And: R98, R157, R198:
one that finds the part in DOZE is not taken: its address is answered NAK, the part leaves DOZE for RUN, the guard restarts
from setup in CALM, and the answer held before DOZE is kept; the link is IDLE at the transfer's end (log entry 3). And: R195:
one that comes in FORMING is acknowledged with the clock held low, and it, and what the bridge sends behind it, waits for the
tick at which the forming ends; no block moves meanwhile (log entry 23). And: R198, R199: one that ends a transfer whose rest
is ignored, in WAKING or after a link clear, is not taken either: no block moves, a read is given 0xFF alone, and the next
start of a transfer is heard again. The acknowledge bit and the bytes sent are the model's record of the link (log entry
7). -/
def Obligations.TransfersOutsideRunTakeNoRequest : Prop :=
  ∀ (c : Instr) (s : State), endsTransfer c →
    (s.supply.mode = .retain → exec c s = .next { s with link := { s.link with acked := false } }) ∧
    (s.supply.mode = .run → s.link.ignored = false → s.link.state = .forming → s.pins.lclrN = true →
      exec c s = .next { s with
        link := { s.link with
          held := s.link.held ++ [c],
          waiting := if s.link.waiting = none
            then some (match c with | .answerRead _ => .read | _ => .write) else s.link.waiting,
          acked := s.link.acked || decide (s.link.waiting = none) } }) ∧
    (s.supply.mode ≠ .retain → s.link.ignored = false → s.link.state ≠ .waking → s.pins.lclrN = false →
      exec c s = .next { s with link := { s.link with acked := false } }) ∧
    (s.supply.mode = .doze → s.link.ignored = false → s.link.state ≠ .waking → s.pins.lclrN = true →
      ∃ t, exec c s = .next t ∧ t.link = { s.link with state := .idle, acked := false } ∧
        t.blocks = State.blocks { s with
          supply := { s.supply with mode := .run },
          guard := { s.guard with
            state := .calm, run := 0, settle := none, transfer := .none, setupPending := true, misses := 0,
            lastSample := none, sampleTimer := some s.guard.samplePeriod } } ∧
        (t.dozeCondition = true → t.supply.dozeTimer = some (s.supply.dozeDelay * 1000))) ∧
    (s.supply.mode ≠ .retain → s.link.ignored = true ∨ s.link.state = .waking →
      ∃ t, exec c s = .next t ∧ t.blocks = s.blocks ∧ s.dozeTimed t ∧
        t.link = { s.link with
          state := if s.link.state = .waking then .idle else s.link.state, ignored := false, acked := false,
          sent := match c with | .answerRead n => List.replicate n 0xFF | _ => s.link.sent })

/-- R191, R195, R198, R199: what an address byte after a start condition does. A start ends a transfer in progress as a stop
would, also one whose rest was ignored; a match in RUN is acknowledged, a match in DOZE is NAKed and wakes the part, and a
match in FORMING waits, with every command of the bridge behind it (R195, log entry 23); another address, or any address with
LCLR_N low, is not acknowledged, and the rest of a transfer of the part's own address is then ignored (log entry 3). No block
moves but in the wake, and the doze timer follows the doze condition (R156). In RECEIVING the write in progress is an empty
one, since its data bytes would have come with the command that ends it (log entry 2). The acknowledge bit is the model's
record of what the port drove (log entry 7). -/
def Obligations.AddressByteIsJudged : Prop :=
  ∀ (s : State) (address : BitVec 7) (dir : Dir),
    (s.supply.mode = .retain →
      exec (.addressMatch address dir) s = .next { s with link := { s.link with acked := false } }) ∧
    (s.supply.mode ≠ .retain → s.pins.lclrN = true → s.link.state = .forming → s.link.waiting ≠ none →
      exec (.addressMatch address dir) s =
        .next { s with link := { s.link with held := s.link.held ++ [.addressMatch address dir] } }) ∧
    (s.supply.mode = .run → address = s.link.address → s.pins.lclrN = true → s.link.state ≠ .forming →
      ∃ t, exec (.addressMatch address dir) s = .next t ∧ s.dozeTimed t ∧ t.blocks = s.blocks ∧
        t.link.acked = true ∧
        t.link.answer = s.link.answer ∧ t.link.ignored = false ∧
        t.link.state = (match dir with | .write => .receiving | .read => .sending) ∧
        (dir = .write → t.link.buffer = [] ∧ t.link.count = 0)) ∧
    (s.supply.mode = .run → address = s.link.address → s.pins.lclrN = true → s.link.state = .forming →
      s.link.waiting = none →
      ∃ t, exec (.addressMatch address dir) s = .next t ∧ s.dozeTimed t ∧ t.blocks = s.blocks ∧
        t.link = { s.link with waiting := some dir, acked := true, ignored := false }) ∧
    (s.supply.mode = .doze → address = s.link.address → s.pins.lclrN = true → s.link.state = .idle →
      ∃ t, exec (.addressMatch address dir) s = .next t ∧ s.dozeTimed t ∧
        t.link = { s.link with state := .waking, acked := false, ignored := false } ∧
        t.supply = { s.supply with mode := .run } ∧ t.guard.state = .calm ∧ t.guard.setupPending = true ∧
        t.guard.sampleTimer = some s.guard.samplePeriod ∧ t.table = s.table ∧ t.grants = s.grants ∧ t.seq = s.seq ∧
        t.gauge = s.gauge ∧ t.clock = s.clock ∧ t.attention = s.attention) ∧
    (s.supply.mode ≠ .retain → (address ≠ s.link.address ∨ s.pins.lclrN = false) →
      (s.pins.lclrN = true → s.link.state = .forming → s.link.waiting = none) →
      ∃ t, exec (.addressMatch address dir) s = .next t ∧ s.dozeTimed t ∧ t.blocks = s.blocks ∧
        t.link.acked = false ∧
        t.link.answer = s.link.answer ∧ t.link.forming = s.link.forming ∧
        t.link.ignored = decide (address = s.link.address) ∧
        t.link.state = if s.link.state = .forming then .forming else .idle)

/-- R193: a write that ends with no data byte is no request: the link is IDLE, the answer buffer is kept and no answer is
formed. And: R196: a read is sent the answer frame from its outcome byte and then 0xFF, or the NO-REQUEST frame where there is
no answer; the answer buffer is kept and the link is IDLE at the end. The transfer stops the doze timer, and where the doze
condition holds at its end the timer starts afresh (R156). Neither is taken in FORMING: a statement of its own says that they
wait there (R195). The bytes sent and the acknowledge bit are the model's record of the link (log entry 7). -/
def Obligations.ReadsSendTheAnswerEmptyWritesKeepIt : Prop :=
  (∀ s : State, s.listens →
    ∃ t, exec .emptyWrite s = .next t ∧ t.blocks = s.blocks ∧
      (t.supply.dozeTimer = if t.dozeCondition then some (t.supply.dozeDelay * 1000)
        else if s.dozeCondition then none else s.supply.dozeTimer) ∧
      t.link.state = .idle ∧ t.link.buffer = [] ∧
      t.link.count = 0 ∧ t.link.acked = true ∧ t.link.address = s.link.address ∧ t.link.sent = s.link.sent ∧
      t.link.answer = s.link.answer ∧ t.link.forming = s.link.forming ∧ t.link.held = s.link.held) ∧
  (∀ (s : State) (n : Nat), s.listens →
    ∃ t, exec (.answerRead n) s = .next t ∧ t.blocks = s.blocks ∧
    (t.supply.dozeTimer = if t.dozeCondition then some (t.supply.dozeDelay * 1000)
      else if s.dozeCondition then none else s.supply.dozeTimer) ∧
    t.link.state = .idle ∧ t.link.answer = s.link.answer ∧ t.link.forming = s.link.forming ∧
    t.link.held = s.link.held ∧ t.link.acked = true ∧ t.link.sent.length = n ∧
    (∀ a, s.link.answer = some a → ∀ k, k < n →
      t.link.sent[k]? = some ((a.code.byte :: BitVec.ofNat 8 a.payload.length :: a.payload)[k]?.getD 0xFF)) ∧
    (s.link.answer = none → ∀ k, k < n → t.link.sent[k]? = some (([0x22, 0x00] : List Byte)[k]?.getD 0xFF)))

/-- R195: the forming ends at the first tick after the end of the write: the answer is placed in the answer buffer and the
link goes to IDLE, or to the transfer that waits; outside FORMING, and before that tick, there is nothing to end. That it then
leaves the state unchanged is the model's reading (log entry 11). -/
def Obligations.FormingEndsWithTheAnswer : Prop :=
  ∀ s : State, s.supply.mode ≠ .retain →
    (s.link.state = .forming → s.link.ticked = true → ∃ t, exec .answerFormed s = .next t ∧ t.blocks = s.blocks ∧ s.dozeTimed t ∧
      t.link = { s.link with
        answer := s.link.forming, forming := none, ticked := false, waiting := none,
        state := match s.link.waiting with | none => .idle | some .read => .sending | some .write => .receiving }) ∧
    (s.link.state ≠ .forming ∨ s.link.ticked = false → exec .answerFormed s = .next s)

/-- R199: the falling of LCLR_N discards a partial request and every answer and leaves the link IDLE, and no other block
moves; the rest of a transfer it interrupts is ignored, which the model keeps as a flag of the link (log entry 3); it ends a
stretch, and passes over each command that waited behind it: none of them is acknowledged, and the first ends the transfer
that was interrupted (log entry 23); its return high changes nothing else. And: R156, R198: WAKING ends at the end of the
transfer, with the link IDLE, and so does the ignoring of an interrupted transfer; behind a stretched clock it waits as every
command of the bridge does (log entry 23); a doze condition that so comes to hold starts the doze timer afresh. That LCLR_N is
followed in every mode, and that nothing else ends so, are the model's (log entries 11 and 18). -/
def Obligations.LinkClearAndWakingEndInIdle : Prop :=
  (∀ s : State,
    (s.supply.mode ≠ .retain → ∃ t, exec .linkClear s = .next t ∧ s.dozeTimed t ∧
      t.blocks = State.blocks { s with pins := { s.pins with lclrN := false } } ∧
      t.link = { s.link with
        state := .idle, buffer := [], count := 0, answer := none, forming := none, ticked := false, waiting := none,
        held := [], ignored := t.link.ignored, acked := t.link.acked, sent := t.link.sent } ∧
      (s.link.held = [] → t.link.acked = s.link.acked ∧ t.link.sent = s.link.sent ∧
        t.link.ignored = decide (s.link.state = .receiving ∨ s.link.state = .sending ∨ s.link.state = .waking ∨
          (s.link.state = .forming ∧ s.link.waiting ≠ none) ∨ (s.link.state = .idle ∧ s.link.ignored = true))) ∧
      (∀ cs c u, s.link.held = cs ++ [c] → exec .linkClear { s with link := { s.link with held := cs } } = .next u →
        (endsTransfer c → t.link = { u.link with
          ignored := false, acked := false,
          sent := match c with
            | .answerRead n => if u.link.ignored then List.replicate n 0xFF else u.link.sent
            | _ => u.link.sent }) ∧
        (∀ address dir, c = .addressMatch address dir →
          t.link = { u.link with acked := false, ignored := decide (address = s.link.address) }) ∧
        (c = .wakingTransferEnd → t.link = { u.link with ignored := false }))) ∧
    exec .linkClearRelease s = .next { s with pins := { s.pins with lclrN := true } }) ∧
  (∀ s : State, s.supply.mode ≠ .retain →
    (s.link.state = .waking → ∃ t, exec .wakingTransferEnd s = .next t ∧ t.blocks = s.blocks ∧ s.dozeTimed t ∧
      t.link = { s.link with state := .idle, ignored := false }) ∧
    (s.link.state ≠ .waking → (s.pins.lclrN = true → s.link.state = .forming → s.link.waiting = none) →
      exec .wakingTransferEnd s = .next { s with link := { s.link with ignored := false } }) ∧
    (s.pins.lclrN = true → s.link.state = .forming → s.link.waiting ≠ none →
      exec .wakingTransferEnd s = .next { s with link := { s.link with held := s.link.held ++ [.wakingTransferEnd] } }))

/-! ## Reports and clocks -/

/-- R170, R172, R173: READ-CLOCK reports the run seconds and the drive clock; SET-CLOCK sets the drive clock, leaves the run
seconds and answers the report; the second step raises both, in every power mode while the store holds them (R168, R174). That
a second step between the loss of the store and the cold start changes nothing is the model's reading (log entry 12). -/
def Obligations.ClocksAreReadSetAndStepped : Prop :=
  ∀ s : State,
    (s.listens → Serves (.readClock []) s s (okAnswer (be4 s.clock.runSeconds ++ be4 s.clock.driveClock))) ∧
    (∀ b3 b2 b1 b0 : Byte, s.listens →
      Serves (.setClock [b3, b2, b1, b0]) s { s with clock := { s.clock with driveClock := nat4 b3 b2 b1 b0 } }
        (okAnswer (be4 s.clock.runSeconds ++ [b3, b2, b1, b0]))) ∧
    (s.supply.storeValid = true → s.clock.driveClock ≤ 4294967295 →
      exec .secondStep s = .next { s with
        clock :=
          { runSeconds := if s.clock.runSeconds < 4294967294 then s.clock.runSeconds + 1 else s.clock.runSeconds,
            driveClock := if s.clock.driveClock = 4294967295 then 0 else s.clock.driveClock + 1 } }) ∧
    (s.supply.storeValid = false → exec .secondStep s = .next s)

/-- R183, R184, R205: the status report, and the doze flag cleared once it has been formed. -/
def Obligations.StatusIsReported : Prop :=
  ∀ (s : State) (level : Nat), s.listens → s.highest level →
    Serves (.readStatus []) s { s with attention := { s.attention with dozeFlag := false } }
      (okAnswer (be2 s.attention.pending.toNat ++ be1 level ++ be1 s.attention.mask ++
        be1 ((if s.supply.lost then 1 else 0) + (if s.attnAsserted then 2 else 0) +
          (if s.attention.dozeFlag then 4 else 0)) ++
        be1 s.supply.startKind.code ++ [0x00, 0x3C, 0x41] ++ be1 s.seq.state.code ++ be1 s.guard.state.code ++
        be1 s.supply.level.code ++ be1 (if s.supply.present then 1 else 0)))

/-- R83, R97, R205: the guard report, with the peak as its integer square root rounded down. And: R102, R106, R121, R205: the
mechanism report, with the lines each state drives. -/
def Obligations.GuardAndMechanismAreReported : Prop :=
  (∀ (s : State) (root : Nat), s.listens → root * root ≤ s.guard.episode.peak →
    s.guard.episode.peak < (root + 1) * (root + 1) → s.guard.episode.peak ≤ 12582912 →
    Serves (.readGuard []) s s
      (okAnswer (be1 s.guard.state.code ++ be1 s.guard.blindPolicy.code ++
        be1 ((if s.guard.setupPending then 1 else 0) + (if s.guard.episode.isOpen then 2 else 0) +
          (if s.guard.lastSample = none then 0 else 4)) ++
        be1 s.guard.misses ++ be1 s.guard.run ++ be2 s.guard.falls ++ be2 s.guard.knocks ++
        be1 s.guard.episode.kind.code ++ be2 root ++ be2 s.guard.episode.duration ++ be1 s.guard.episode.falls ++
        (match s.guard.lastSample with
          | none => [0, 0, 0, 0, 0, 0, 0]
          | some p => beSigned2 p.x ++ beSigned2 p.y ++ beSigned2 p.z ++ be1 p.cls.code)))) ∧
  (∀ s : State, s.listens →
    Serves (.readMechanism []) s s
      (okAnswer (be1 s.seq.state.code ++ be1 s.seq.target.code ++ be1 s.seq.fault.code ++
        be1 ((if s.seq.target = .off ∨ (s.supply.level = .critical ∧ s.supply.present = false) then 1 else 0) +
          (if s.supply.level = .critical ∧ s.supply.present = false then 2 else 0)) ++
        be1 s.seq.stopCause.code ++
        be2 (if s.seq.state = .off ∨ s.seq.state = .ready ∨ s.seq.state = .draining then 0 else s.seq.phase.getD 0) ++
        be2 s.seq.waited ++
        be1 ((if s.seq.state = .off ∨ s.seq.state = .cycleWait then 0 else 1) +
          (if s.seq.state = .spinning ∨ s.seq.state = .ready ∨ s.seq.state = .draining ∨ s.seq.state = .unloading
            then 2 else 0) +
          (if s.seq.state = .unloading ∨ s.seq.state = .stopping then 4 else 0) + (if s.pins.drdy then 8 else 0)))))

/-- R133, R143, R145, R205: the gauge report, with the average current and the time to reserve as they are computed when it is
read. And: R50, R204: READ-GRANTS lists the outstanding grants in slot order. -/
def Obligations.GaugeAndGrantsAreReported : Prop :=
  (∀ (s : State) (average : Int), s.listens →
    (s.gauge.currents = [] → average = 0) →
    (s.gauge.currents ≠ [] → average = s.gauge.currents.sum.tdiv s.gauge.currents.length) →
    Serves (.readGauge []) s s
      (okAnswer (be2 s.gauge.p ++ be2 s.gauge.s ++ be4 s.gauge.q ++
        be1 ((if s.gauge.uncertain then 1 else 0) + (if s.gauge.estimatePending then 2 else 0)) ++
        beSigned2 (s.gauge.current.tdiv 1000) ++ beSigned2 (average.tdiv 1000) ++ be1 s.gauge.currents.length ++
        be2 s.gauge.volts ++
        be2 (if 0 ≤ average then 65535
          else if s.gauge.q ≤ s.supply.rPark then 0
          else min 65534 ((s.gauge.q - s.supply.rPark) * 60 / average.natAbs)) ++
        be2 s.gauge.capacity ++ be1 s.gauge.emptyRun ++ be1 s.gauge.fullRun))) ∧
  (∀ s : State, s.listens →
    let grants := (List.finRange 8).filterMap fun k => s.grants.slots[k]
    Serves (.readGrants []) s s
      (okAnswer (be1 grants.length ++ grants.flatMap fun g =>
        be1 g.tag ++ be1 (match g.entry with | some i => i.val | none => 255) ++ be1 g.window ++ be4 g.first ++
          be2 g.count ++ be2 g.remaining)))

/-- R207: READ-PARAM answers the number and the value in force, in every state of every block, and changes nothing; a number not
in the table is refused BAD-ARG. And: R119, R206: whatever command is taken, a parameter changes only at a SET-PARAM or a cold
start, and a sequencer timing parameter only while the sequencer is in OFF or CYCLE_WAIT or at a cold start. -/
def Obligations.ParametersAreReadAndKept : Prop :=
  (∀ s : State, s.listens →
    (∀ n v, (n, v) ∈ s.parameterTable → Serves (.readParam [n]) s s (okAnswer (n :: be4 v))) ∧
    (∀ n : Byte, (∀ v, (n, v) ∉ s.parameterTable) →
      Refuses (.readParam [n]) s { code := .badArg, payload := [] })) ∧
  (∀ (c : Instr) (s t : State), exec c s = .next t →
    (t.parameterTable ≠ s.parameterTable → (∃ p, c = .setParam p) ∨ ∃ a b, c = .coldStart a b) ∧
    (s.seq.state ≠ .off → s.seq.state ≠ .cycleWait → (∀ a b, c ≠ .coldStart a b) →
      t.seq.supplySettle = s.seq.supplySettle ∧ t.seq.spinTimeout = s.seq.spinTimeout ∧
      t.seq.unloadTime = s.seq.unloadTime ∧ t.seq.spinDown = s.seq.spinDown ∧ t.seq.cycleDelay = s.seq.cycleDelay))

/-! ## Attention -/

/-- R185, R187, R203: CLEAR-ATTENTION removes the named causes and clears LOST where bit 15 names it, and answers the set, its
highest level and LOST as they then stand, the transfer having stopped the doze timer if the doze condition held (R156); a set
with one of bits 11 to 14 is refused BAD-ARG. -/
def Obligations.ClearAttentionRemovesTheNamed : Prop :=
  ∀ (s : State) (b1 b0 : Byte), s.listens →
    (b1.toNat / 8 % 16 ≠ 0 → Refuses (.clearAttention [b1, b0]) s { code := .badArg, payload := [] }) ∧
    (b1.toNat / 8 % 16 = 0 → ∃ t, exec (.clearAttention [b1, b0]) s = .next t ∧
      t.blocks = State.blocks { s with
        attention := { s.attention with pending := t.attention.pending },
        supply := { s.supply with lost := s.supply.lost && decide (b1.toNat < 128) } } ∧
      (t.supply.dozeTimer = if s.dozeCondition then none else s.supply.dozeTimer) ∧
      (∀ c : Cause, t.isPending c = (s.isPending c && !(nat2 b1 b0).testBit c.number)) ∧
      ∀ level, t.highest level →
        t.link = s.link.answering (okAnswer (be2 t.attention.pending.toNat ++ be1 level ++
          be1 (if t.supply.lost then 1 else 0))))

/-- R181, R182: the causes that assert ATTN_N at each mask; in RETAIN the line is released. -/
def Obligations.MaskDecidesTheLine : Prop :=
  ∀ s : State,
    (s.supply.mode = .retain → s.attnAsserted = false) ∧
    (s.supply.mode ≠ .retain →
      (s.attention.mask ≤ 1 → (s.attnAsserted = true ↔ ∃ c, s.isPending c = true)) ∧
      (s.attention.mask = 2 →
        (s.attnAsserted = true ↔ ∃ c, s.isPending c = true ∧ c ≠ .sensor ∧ c ≠ .freed)) ∧
      (s.attention.mask = 3 → (s.attnAsserted = true ↔
        ∃ c ∈ [Cause.fall, .battery, .restarted, .expired, .supply, .knock, .mechanism], s.isPending c = true)) ∧
      (s.attention.mask = 4 → (s.attnAsserted = true ↔
        ∃ c ∈ [Cause.fall, .battery, .restarted, .expired, .supply], s.isPending c = true)) ∧
      (s.attention.mask = 5 → (s.attnAsserted = true ↔
        ∃ c ∈ [Cause.fall, .battery, .restarted], s.isPending c = true)) ∧
      (6 ≤ s.attention.mask → (s.attnAsserted = true ↔ s.isPending .fall = true)))

/-- R180, R185, R188, R189: whatever command is taken, a pending cause leaves the pending set only by CLEAR-ATTENTION, the
entry to RETAIN or a start, and a cause joins it only by a command whose rules raise that cause (R179, R180); the LOST flag is
set only by a cold start and cleared only by CLEAR-ATTENTION (R163). And: R168, R170, R172, R174: no command but the second
step, SET-CLOCK and a cold start moves the two counts; SET-CLOCK leaves the run seconds; so they fall only at a cold start. -/
def Obligations.CausesAndCountsMoveByTheirRules : Prop :=
  (∀ (c : Instr) (s t : State), exec c s = .next t →
    (∀ cause : Cause, s.isPending cause = true → t.isPending cause = false →
      (∃ p, c = .clearAttention p) ∨ (∃ p, c = .restart p) ∨ c = .enterRetain ∨ (∃ a b, c = .coldStart a b) ∨
        ∃ a b, c = .warmStart a b) ∧
    (∀ cause : Cause, s.isPending cause = false → t.isPending cause = true → cause.raisedBy c = true) ∧
    (s.supply.lost = true → t.supply.lost = false → ∃ p, c = .clearAttention p) ∧
    (s.supply.lost = false → t.supply.lost = true → ∃ a b, c = .coldStart a b)) ∧
  (∀ (c : Instr) (s t : State), exec c s = .next t →
    (t.clock ≠ s.clock → c = .secondStep ∨ (∃ p, c = .setClock p) ∨ ∃ a b, c = .coldStart a b) ∧
    (t.clock.runSeconds < s.clock.runSeconds → ∃ a b, c = .coldStart a b) ∧
    (t.clock.runSeconds ≠ s.clock.runSeconds → c = .secondStep ∨ ∃ a b, c = .coldStart a b))

/-! ## Parameters -/

/-- R84, R119, R126, R206: a taken SET-PARAM answers the number and the value taken, clamped and adjusted, with the owning
rule's effects, and changes nothing else (the cycle delay in CYCLE_WAIT has a statement of its own). -/
def Obligations.SetParamSetsItsParameter : Prop :=
  ∀ (s : State) (n v3 v2 v1 v0 : Byte) (v : Nat), s.listens → s.taken n (nat4 v3 v2 v1 v0) = some v →
    (0x18 ≤ n.toNat → n.toNat ≤ 0x1C → s.seq.state = .off ∨ s.seq.state = .cycleWait) →
    (n = 0x1C → s.seq.state = .off) →
    (n = 0x01 → ∀ i w, (s.entry i).state ≠ .free → w ∈ (s.entry i).windows → w.base + 2 ^ (w.cls + 4) - 1 ≤ v) →
    Serves (.setParam [n, v3, v2, v1, v0]) s (s.withParam n v) (okAnswer (n :: be4 v))

/-- R7, R119, R206: SET-PARAM is refused BAD-ARG for a number not in the table, LOCKED for a sequencer timing parameter
outside OFF and CYCLE_WAIT whatever the value, and BAD-STATE for a media limit that a live window reaches beyond; nothing
changes. And: R115, R120: a cycle delay set in CYCLE_WAIT measures the wait in progress: with waited at or past it the
sequencer enters OFF, MECHANISM is raised and the precondition is evaluated; otherwise the timer runs for what is left, and an
old expiry of it does not happen. -/
def Obligations.SetParamRefusalsAndTheCycleDelay : Prop :=
  (∀ (s : State) (n v3 v2 v1 v0 : Byte), s.listens →
    (s.taken n (nat4 v3 v2 v1 v0) = none →
      Refuses (.setParam [n, v3, v2, v1, v0]) s { code := .badArg, payload := [] }) ∧
    (0x18 ≤ n.toNat → n.toNat ≤ 0x1C → s.seq.state ≠ .off → s.seq.state ≠ .cycleWait →
      Refuses (.setParam [n, v3, v2, v1, v0]) s { code := .locked, payload := [] }) ∧
    (∀ i w, (s.entry i).state ≠ .free → w ∈ (s.entry i).windows →
      max 15 (nat4 v3 v2 v1 v0) < w.base + 2 ^ (w.cls + 4) - 1 →
      Refuses (.setParam [0x01, v3, v2, v1, v0]) s { code := .badState, payload := [] })) ∧
  (∀ (s : State) (v3 v2 v1 v0 : Byte), s.listens → s.seq.state = .cycleWait →
    let d := min 10000 (nat4 v3 v2 v1 v0)
    (d ≤ s.seq.waited →
      Serves (.setParam [0x1C, v3, v2, v1, v0]) s
        (({ s with seq := { s.seq with cycleDelay := d, state := .off, phase := none, waited := 0 } }.raise
          .mechanism).powerUpCheck) (okAnswer (0x1C :: be4 d))) ∧
    (s.seq.waited < d →
      Serves (.setParam [0x1C, v3, v2, v1, v0]) s
        { s with seq := { s.seq with cycleDelay := d, phase := some (d - s.seq.waited) } } (okAnswer (0x1C :: be4 d)) ∧
      ∀ t, exec (.setParam [0x1C, v3, v2, v1, v0]) s = .next t → exec .cycleDelayExpiry t = .next t))

/-! ## The Survey Table -/

/-- R11: the first condition met refuses an OPEN-SURVEY, and nothing changes. -/
def Obligations.OpenSurveyIsRefused : Prop :=
  ∀ (s : State) (n1 n0 b3 b2 b1 b0 c : Byte) (label : List Byte), s.listens → label.length ≤ 72 →
    let payload := [n1, n0, b3, b2, b1, b0, c, BitVec.ofNat 8 label.length] ++ label
    let number := nat2 n1 n0
    let w : Window := { base := nat4 b3 b2 b1 b0, cls := c.toNat }
    let refuses := fun code => Refuses (.openSurvey payload) s { code := code, payload := [] }
    (number = 0 ∨ 19 < w.cls ∨ 16 < label.length → refuses .badArg) ∧
    (number ≠ 0 → w.cls ≤ 19 → label.length ≤ 16 →
      (¬ s.unheld number → refuses .exists) ∧
      (s.unheld number → ¬ w.fits → refuses .misaligned) ∧
      (s.unheld number → w.fits → ¬ w.within s.table.mediaLimit → refuses .outOfRange) ∧
      (s.unheld number → w.fits → w.within s.table.mediaLimit → s.shares w → refuses .overlap) ∧
      (s.unheld number → w.fits → w.within s.table.mediaLimit → ¬ s.shares w →
        ((∀ i, (s.entry i).state ≠ .free) ∨ 192 ≤ s.heldSlots) → refuses .full) ∧
      (s.unheld number → w.fits → w.within s.table.mediaLimit → ¬ s.shares w →
        (∃ i, (s.entry i).state = .free) → s.heldSlots < 192 → s.supply.present = false → s.supply.level ≠ .ample →
        refuses .reserve))

/-- R3, R9, R12, R13: an OPEN-SURVEY that passes every check builds the entry in the lowest FREE slot, its stamp from the
drive clock, and the level is evaluated; the answer gives the slot and the free pool. That the evaluation is made within the
request, on the state it finds, is R9 and R166 read against a sentence of R13 (log entry 25). -/
def Obligations.OpenSurveyBuildsTheEntry : Prop :=
  ∀ (s : State) (n1 n0 b3 b2 b1 b0 c : Byte) (label : List Byte) (i : Fin 64), s.listens → label.length ≤ 16 →
    let w : Window := { base := nat4 b3 b2 b1 b0, cls := c.toNat }
    nat2 n1 n0 ≠ 0 → w.cls ≤ 19 → s.unheld (nat2 n1 n0) → w.fits → w.within s.table.mediaLimit → ¬ s.shares w →
    s.isLowestFree i → (s.entry i).windows = [] → s.heldSlots < 192 →
    (s.supply.present = true ∨ s.supply.level = .ample) →
    Serves (.openSurvey ([n1, n0, b3, b2, b1, b0, c, BitVec.ofNat 8 label.length] ++ label)) s
      (s.setEntry i
        { state := .opened, number := some (nat2 n1 n0), label := label, windows := [w],
          opened := some s.clock.driveClock, sealed := none, hold := none, verify := false, issued := 0, written := 0,
          jolts := 0 }).openChanged
      (okAnswer (be1 i ++ be1 (191 - s.heldSlots)))

/-- R14, R15: ADD-WINDOW's checks in their order, and its effect: the window is appended, and its index and the free pool are
answered. -/
def Obligations.AddWindowAppends : Prop :=
  ∀ (s : State) (n1 n0 b3 b2 b1 b0 c : Byte) (i : Fin 64), s.listens →
    let payload := [n1, n0, b3, b2, b1, b0, c]
    let number := nat2 n1 n0
    let w : Window := { base := nat4 b3 b2 b1 b0, cls := c.toNat }
    let refuses := fun code => Refuses (.addWindow payload) s { code := code, payload := [] }
    let n := (s.entry i).windows.length
    (number = 0 ∨ 19 < w.cls → refuses .badArg) ∧
    (number ≠ 0 → w.cls ≤ 19 → s.unheld number → refuses .notFound) ∧
    (w.cls ≤ 19 → s.holds i number →
      ((s.entry i).state ≠ .opened → refuses .badState) ∧
      ((s.entry i).state = .opened → ¬ w.fits → refuses .misaligned) ∧
      ((s.entry i).state = .opened → w.fits → ¬ w.within s.table.mediaLimit → refuses .outOfRange) ∧
      ((s.entry i).state = .opened → w.fits → w.within s.table.mediaLimit → s.shares w → refuses .overlap) ∧
      ((s.entry i).state = .opened → w.fits → w.within s.table.mediaLimit → ¬ s.shares w →
        (8 ≤ n ∨ 192 ≤ s.heldSlots) → refuses .full) ∧
      ((s.entry i).state = .opened → w.fits → w.within s.table.mediaLimit → ¬ s.shares w → n < 8 → s.heldSlots < 192 →
        Serves (.addWindow payload) s (s.modifyEntry i fun e => { e with windows := e.windows ++ [w] })
          (okAnswer (be1 n ++ be1 (191 - s.heldSlots)))))

/-- R16, R17: DROP-WINDOW's checks in their order, and its effect: the last window leaves the list, and is answered with the
free pool. -/
def Obligations.DropWindowTakesTheLast : Prop :=
  ∀ (s : State) (n1 n0 : Byte) (i : Fin 64), s.listens →
    let number := nat2 n1 n0
    let refuses := fun code => Refuses (.dropWindow [n1, n0]) s { code := code, payload := [] }
    let grantInLast := ∃ (k : Fin 8) (g : Grant), s.grants.slots[k] = some g ∧ g.entry = some i ∧
      g.window + 1 = (s.entry i).windows.length
    (number = 0 → refuses .badArg) ∧
    (number ≠ 0 → s.unheld number → refuses .notFound) ∧
    (s.holds i number →
      ((s.entry i).state ≠ .opened ∨ (s.entry i).windows.length = 1 ∨ grantInLast → refuses .badState) ∧
      ((s.entry i).state = .opened → ¬ grantInLast → ∀ (ws : List Window) (w : Window), ws ≠ [] →
        (s.entry i).windows = ws ++ [w] → s.heldSlots ≤ 192 →
        Serves (.dropWindow [n1, n0]) s (s.modifyEntry i fun e => { e with windows := ws })
          (okAnswer (be4 w.base ++ be1 w.cls ++ be1 (193 - s.heldSlots)))))

/-- R20, R21, R22, R204: FIND-SURVEY and READ-ENTRY give the same entry report for the same entry; a survey number of 0 and a
slot above 63 are BAD-ARG, a number no live entry holds and a slot in FREE are NOT-FOUND. -/
def Obligations.EntriesAreReported : Prop :=
  ∀ (s : State) (n1 n0 b : Byte) (i : Fin 64), s.listens →
    let e := s.entry i
    let hold := match e.hold with
      | some d => if s.clock.runSeconds < d then d - s.clock.runSeconds else 0
      | none => 0
    let report := be1 i ++ be1 e.state.code ++ be2 (e.number.getD 0) ++
      be1 ((if e.verify then 1 else 0) + (if e.sealed = none then 0 else 2) + (if e.hold = none then 0 else 4)) ++
      be4 (e.opened.getD 0) ++ be4 (e.sealed.getD 0) ++ be4 hold ++ be2 e.issued ++ be4 e.written ++ be1 e.jolts ++
      be1 (s.outstanding i) ++ be1 e.label.length ++ e.label ++ be1 e.windows.length ++
      e.windows.flatMap fun w => be4 w.base ++ be1 w.cls
    (s.holds i (nat2 n1 n0) → Serves (.findSurvey [n1, n0]) s s (okAnswer report)) ∧
    (nat2 n1 n0 = 0 → Refuses (.findSurvey [n1, n0]) s { code := .badArg, payload := [] }) ∧
    (nat2 n1 n0 ≠ 0 → s.unheld (nat2 n1 n0) →
      Refuses (.findSurvey [n1, n0]) s { code := .notFound, payload := [] }) ∧
    (b.toNat = i → e.state ≠ .free → Serves (.readEntry [b]) s s (okAnswer report)) ∧
    (b.toNat = i → e.state = .free → Refuses (.readEntry [b]) s { code := .notFound, payload := [] }) ∧
    (63 < b.toNat → Refuses (.readEntry [b]) s { code := .badArg, payload := [] })

/-- R18, R19: FIND-BLOCK answers the entry and window that cover a block, in every live state, and NOT-FOUND for a block in no
window. And: R3, R23: NEXT-ENTRY finds the lowest live slot above the one given, from slot 0 for 255; a slot of 64 to 254 is
BAD-ARG. -/
def Obligations.BlocksAndSlotsAreFound : Prop :=
  (∀ (s : State) (b3 b2 b1 b0 : Byte) (i : Fin 64) (k : Nat) (w : Window), s.listens →
    (s.coveredBy (nat4 b3 b2 b1 b0) i k w →
      Serves (.findBlock [b3, b2, b1, b0]) s s
        (okAnswer (be1 i ++ be2 ((s.entry i).number.getD 0) ++ be1 (s.entry i).state.code ++ be1 k ++ be4 w.base ++
          be1 w.cls))) ∧
    (s.uncovered (nat4 b3 b2 b1 b0) →
      Refuses (.findBlock [b3, b2, b1, b0]) s { code := .notFound, payload := [] })) ∧
  (∀ (s : State) (b : Byte) (i : Fin 64), s.listens →
    (64 ≤ b.toNat → b.toNat ≤ 254 → Refuses (.nextEntry [b]) s { code := .badArg, payload := [] }) ∧
    ((b.toNat < 64 ∨ b.toNat = 255) →
      ((s.entry i).state ≠ .free → (b.toNat = 255 ∨ b.toNat < i) →
        (∀ j, j < i → (b.toNat = 255 ∨ b.toNat < j) → (s.entry j).state = .free) →
        Serves (.nextEntry [b]) s s
          (okAnswer (be1 i ++ be1 (s.entry i).state.code ++ be2 ((s.entry i).number.getD 0)))) ∧
      ((∀ j : Fin 64, (b.toNat = 255 ∨ b.toNat < j) → (s.entry j).state = .free) →
        Refuses (.nextEntry [b]) s { code := .notFound, payload := [] })))

/-- R24: RENAME replaces the label in every live state and changes nothing else. -/
def Obligations.RenameReplacesTheLabel : Prop :=
  ∀ (s : State) (n1 n0 : Byte) (label : List Byte) (i : Fin 64), s.listens → label.length ≤ 77 →
    let payload := [n1, n0, BitVec.ofNat 8 label.length] ++ label
    (nat2 n1 n0 = 0 ∨ 16 < label.length → Refuses (.rename payload) s { code := .badArg, payload := [] }) ∧
    (nat2 n1 n0 ≠ 0 → label.length ≤ 16 → s.unheld (nat2 n1 n0) →
      Refuses (.rename payload) s { code := .notFound, payload := [] }) ∧
    (label.length ≤ 16 → s.holds i (nat2 n1 n0) →
      Serves (.rename payload) s (s.modifyEntry i fun e => { e with label := label }) (okAnswer []))

/-! ## Sealing, holds and retirement -/

/-- R54, R55, R56, R204: SEAL in every state of the entry: SEALED at once with no grant and no mark, the stamp from the drive
clock and the level evaluated; CLOSING with either; no change in CLOSING; BAD-STATE otherwise. -/
def Obligations.SealActsOnTheState : Prop :=
  ∀ (s : State) (n1 n0 : Byte) (i : Fin 64), s.listens →
    let number := nat2 n1 n0
    let e := s.entry i
    let answer := fun (state : Byte) (verify : Bool) (grants : Nat) =>
      okAnswer ([BitVec.ofNat 8 i.val, n1, n0, state, if verify then 1 else 0] ++ be1 grants)
    (number = 0 → Refuses (.seal [n1, n0]) s { code := .badArg, payload := [] }) ∧
    (number ≠ 0 → s.unheld number → Refuses (.seal [n1, n0]) s { code := .notFound, payload := [] }) ∧
    (s.holds i number →
      (e.state = .opened → ¬ s.hasGrant i → e.verify = false →
        Serves (.seal [n1, n0]) s
          (s.modifyEntry i fun e => { e with state := .sealed, sealed := some s.clock.driveClock }).openChanged
          (answer 3 false 0)) ∧
      (e.state = .opened → s.hasGrant i ∨ e.verify = true →
        Serves (.seal [n1, n0]) s (s.modifyEntry i fun e => { e with state := .closing })
          (answer 2 e.verify (s.outstanding i))) ∧
      (e.state = .closing → Serves (.seal [n1, n0]) s s (answer 2 e.verify (s.outstanding i))) ∧
      (e.state = .sealed ∨ e.state = .retiring →
        Refuses (.seal [n1, n0]) s { code := .badState, payload := [] }))

/-- R54, R56, R59: VERIFIED clears the mark of an entry no grant names, and seals one in CLOSING, raising SEALED; it is refused
BAD-STATE with a grant outstanding and in SEALED and RETIRING. And: R54, R61: REOPEN returns a CLOSING entry to OPEN and keeps
everything else of it; in every other live state it is BAD-STATE. -/
def Obligations.VerifiedAndReopenActOnTheState : Prop :=
  (∀ (s : State) (n1 n0 : Byte) (i : Fin 64), s.listens →
    let number := nat2 n1 n0
    let e := s.entry i
    let answer := fun (state : Byte) => okAnswer [BitVec.ofNat 8 i.val, n1, n0, state, 0, 0]
    (number = 0 → Refuses (.verified [n1, n0]) s { code := .badArg, payload := [] }) ∧
    (number ≠ 0 → s.unheld number → Refuses (.verified [n1, n0]) s { code := .notFound, payload := [] }) ∧
    (s.holds i number →
      (e.state = .sealed ∨ e.state = .retiring ∨ s.hasGrant i →
        Refuses (.verified [n1, n0]) s { code := .badState, payload := [] }) ∧
      (e.state = .opened → ¬ s.hasGrant i →
        Serves (.verified [n1, n0]) s (s.modifyEntry i fun e => { e with verify := false }) (answer 1)) ∧
      (e.state = .closing → ¬ s.hasGrant i →
        Serves (.verified [n1, n0]) s
          ((s.modifyEntry i fun e =>
            { e with verify := false, state := .sealed, sealed := some s.clock.driveClock }).openChanged.raise .sealed)
          (answer 3)))) ∧
  (∀ (s : State) (n1 n0 : Byte) (i : Fin 64), s.listens →
    let number := nat2 n1 n0
    let e := s.entry i
    (number = 0 → Refuses (.reopen [n1, n0]) s { code := .badArg, payload := [] }) ∧
    (number ≠ 0 → s.unheld number → Refuses (.reopen [n1, n0]) s { code := .notFound, payload := [] }) ∧
    (s.holds i number →
      (e.state = .closing →
        Serves (.reopen [n1, n0]) s (s.modifyEntry i fun e => { e with state := .opened })
          (okAnswer ([BitVec.ofNat 8 i.val, n1, n0, 1, if e.verify then 1 else 0] ++ be1 (s.outstanding i)))) ∧
      (e.state ≠ .closing → Refuses (.reopen [n1, n0]) s { code := .badState, payload := [] })))

/-- R63, R64: SET-HOLD in every live state: the deadline becomes the run seconds plus the seconds given, at most
4,294,967,295, unless the one recorded is later, and the answer is the hold remaining. A SET-HOLD of 0 seconds on a deadline
that has lapsed moves it to the run seconds, which is the model's choice and shows in no answer (log entry 24). And: R63:
whatever command is taken, the hold deadline of an entry that is live before and after it is never removed and never moves
earlier. -/
def Obligations.SetHoldExtendsAndNothingShortens : Prop :=
  (∀ (s : State) (n1 n0 h3 h2 h1 h0 : Byte) (i : Fin 64), s.listens →
    let number := nat2 n1 n0
    let candidate := min (s.clock.runSeconds + nat4 h3 h2 h1 h0) 4294967295
    let deadline := match (s.entry i).hold with
      | none => candidate
      | some d => if d < candidate then candidate else d
    let payload := [n1, n0, h3, h2, h1, h0]
    (number = 0 → Refuses (.setHold payload) s { code := .badArg, payload := [] }) ∧
    (number ≠ 0 → s.unheld number → Refuses (.setHold payload) s { code := .notFound, payload := [] }) ∧
    (s.holds i number →
      Serves (.setHold payload) s (s.modifyEntry i fun e => { e with hold := some deadline })
        (okAnswer (be4 (deadline - s.clock.runSeconds))))) ∧
  (∀ (c : Instr) (s t : State) (i : Fin 64) (d : Nat), exec c s = .next t → (s.entry i).state ≠ .free →
    (s.entry i).hold = some d → (t.entry i).state ≠ .free → ∃ d', (t.entry i).hold = some d' ∧ d ≤ d')

/-- R1, R54, R66, R67, R68: RETIRE is refused HELD under a hold in force and BAD-STATE in RETIRING; otherwise the entry enters
FREE, its record cleared, or RETIRING with a grant outstanding, and the level is evaluated where n_open fell. -/
def Obligations.RetireFreesOrWaits : Prop :=
  ∀ (s : State) (n1 n0 : Byte) (i : Fin 64), s.listens →
    let number := nat2 n1 n0
    let e := s.entry i
    let held := ∃ d, e.hold = some d ∧ s.clock.runSeconds < d
    let freed := okAnswer [BitVec.ofNat 8 i.val, n1, n0, 0, 0, 0]
    let cleared : Entry :=
      { state := .free, number := none, label := [], windows := [], opened := none, sealed := none, hold := none,
        verify := false, issued := 0, written := 0, jolts := 0 }
    (number = 0 → Refuses (.retire [n1, n0]) s { code := .badArg, payload := [] }) ∧
    (number ≠ 0 → s.unheld number → Refuses (.retire [n1, n0]) s { code := .notFound, payload := [] }) ∧
    (s.holds i number →
      (held → Refuses (.retire [n1, n0]) s { code := .held, payload := [] }) ∧
      (¬ held → e.state = .retiring → Refuses (.retire [n1, n0]) s { code := .badState, payload := [] }) ∧
      (¬ held → e.state = .sealed → Serves (.retire [n1, n0]) s (s.setEntry i cleared) freed) ∧
      (¬ held → e.state = .opened ∨ e.state = .closing → ¬ s.hasGrant i →
        Serves (.retire [n1, n0]) s (s.setEntry i cleared).openChanged freed) ∧
      (¬ held → e.state = .opened ∨ e.state = .closing → s.hasGrant i →
        Serves (.retire [n1, n0]) s (s.modifyEntry i fun e => { e with state := .retiring }).openChanged
          (okAnswer ([BitVec.ofNat 8 i.val, n1, n0, 4, if e.verify then 1 else 0] ++ be1 (s.outstanding i)))))

/-- R3, R71, R72, R73, R201: RESTORE of a list of windows: the checks in their order with the index of the window that failed,
and the SEALED entry an accepted one builds in the lowest FREE slot; no level is evaluated and no cause is raised. -/
def Obligations.RestoreRebuildsOrRefuses : Prop :=
  ∀ (s : State) (n1 n0 o3 o2 o1 o0 z3 z2 z1 z0 h3 h2 h1 h0 : Byte) (label : List Byte)
    (bytes : List (Byte × Byte × Byte × Byte × Byte)), s.listens → label.length + 5 * bytes.length ≤ 64 →
    let ws : List Window := bytes.map fun (b3, b2, b1, b0, c) => { base := nat4 b3 b2 b1 b0, cls := c.toNat }
    let payload := [n1, n0, o3, o2, o1, o0, z3, z2, z1, z0, h3, h2, h1, h0, BitVec.ofNat 8 label.length] ++ label ++
      [BitVec.ofNat 8 bytes.length] ++ bytes.flatMap fun (b3, b2, b1, b0, c) => [b3, b2, b1, b0, c]
    let number := nat2 n1 n0
    let sound := number ≠ 0 ∧ label.length ≤ 16 ∧ 1 ≤ ws.length ∧ ws.length ≤ 8 ∧ ∀ w ∈ ws, w.cls ≤ 19
    let inside := fun w : Window => w.within s.table.mediaLimit
    let clashes := fun (k : Nat) (w : Window) => s.shares w ∨ ∃ j v, j < k ∧ ws[j]? = some v ∧ w.share v
    let firstAt := fun (bad : Nat → Window → Prop) (k : Nat) =>
      (∃ w, ws[k]? = some w ∧ bad k w) ∧ ∀ j v, j < k → ws[j]? = some v → ¬ bad j v
    let refuses := fun code bytes => Refuses (.restore payload) s { code := code, payload := bytes }
    (¬ sound → refuses .badArg []) ∧
    (sound → ¬ s.unheld number → refuses .exists []) ∧
    (sound → s.unheld number →
      (∀ k, firstAt (fun _ w => ¬ w.fits) k → refuses .misaligned [BitVec.ofNat 8 k]) ∧
      ((∀ w ∈ ws, w.fits) →
        (∀ k, firstAt (fun _ w => ¬ inside w) k → refuses .outOfRange [BitVec.ofNat 8 k]) ∧
        ((∀ w ∈ ws, inside w) →
          (∀ k, firstAt clashes k → refuses .overlap [BitVec.ofNat 8 k]) ∧
          ((∀ k w, ws[k]? = some w → ¬ clashes k w) →
            ((∀ i, (s.entry i).state ≠ .free) ∨ 192 < s.heldSlots + ws.length → refuses .full []) ∧
            (∀ i, s.isLowestFree i → (s.entry i).windows = [] → s.heldSlots + ws.length ≤ 192 →
              Serves (.restore payload) s
                (s.setEntry i
                  { state := .sealed, number := some number, label := label, windows := ws,
                    opened := some (nat4 o3 o2 o1 o0), sealed := some (nat4 z3 z2 z1 z0),
                    hold := if nat4 h3 h2 h1 h0 = 0 then none
                      else some (min (s.clock.runSeconds + nat4 h3 h2 h1 h0) 4294967295),
                    verify := false, issued := 0, written := 0, jolts := 0 })
                (okAnswer (be1 i ++ be1 (192 - (s.heldSlots + ws.length)))))))))

/-! ## Write checks and grants -/

/-- R33, R38, R39: a CHECK-WRITE always completes with a check answer of eight bytes, and one whose outcome is not GRANTED
changes no block. And: R33 to R37: the outcomes of CHECK-WRITE that the range alone decides: BAD-ARG for no block, DENIED
RANGE beyond the media limit, SPLIT at the window's end, at the next window or at the limit, DENIED SEALED in a window of an
entry that is not OPEN and DENIED UNMAPPED under DENY. None changes a block. The slot and window of the BAD-ARG answer are the
model's reading of R33 (log entry 15). -/
def Obligations.RangesAreClassified : Prop :=
  (∀ (s : State) (payload : List Byte), s.listens → payload.length ≤ 80 →
    ∃ t a, exec (.checkWrite payload) s = .next t ∧ t.link = s.link.answering a ∧ a.payload.length = 8 ∧
      (a.code ≠ .granted → t.blocks = s.blocks)) ∧
  (∀ (s : State) (b3 b2 b1 b0 n1 n0 : Byte) (i : Fin 64) (k : Nat) (w : Window), s.listens →
    let f := nat4 b3 b2 b1 b0
    let n := nat2 n1 n0
    let last := w.base + 2 ^ (w.cls + 4) - 1
    let answers := fun code payload =>
      Refuses (.checkWrite [b3, b2, b1, b0, n1, n0]) s { code := code, payload := payload }
    (n = 0 → answers .badArg [0, 0, 0, 0, 0xFF, 0, 0, 0]) ∧
    (n ≠ 0 → s.table.mediaLimit < f → answers .denied [1, 0, 0, 0, 0xFF, 0, 0, 0]) ∧
    (n ≠ 0 → f ≤ s.table.mediaLimit →
      (s.coveredBy f i k w →
        (last < f + n - 1 →
          answers .split ([0] ++ be2 (last - f + 1) ++ [0, BitVec.ofNat 8 i.val, BitVec.ofNat 8 k, 0, 0])) ∧
        (f + n - 1 ≤ last → (s.entry i).state ≠ .opened →
          answers .denied [2, 0, 0, 0, BitVec.ofNat 8 i.val, BitVec.ofNat 8 k, 0, 0])) ∧
      (s.uncovered f →
        (∀ base, (∃ j v, (s.entry j).state ≠ .free ∧ v ∈ (s.entry j).windows ∧ v.base = base) → f < base →
          (∀ j v, (s.entry j).state ≠ .free → v ∈ (s.entry j).windows → f < v.base → base ≤ v.base) →
          (base ≤ f + n - 1 → answers .split ([0] ++ be2 (base - f) ++ [0, 0xFF, 0, 0, 0])) ∧
          (f + n - 1 < base → s.table.policy = .deny → answers .denied [3, 0, 0, 0, 0xFF, 0, 0, 0])) ∧
        ((∀ j v, (s.entry j).state ≠ .free → v ∈ (s.entry j).windows → v.base ≤ f) →
          (s.table.mediaLimit < f + n - 1 →
            answers .split ([0] ++ be2 (s.table.mediaLimit - f + 1) ++ [0, 0xFF, 0, 0, 0])) ∧
          (f + n - 1 ≤ s.table.mediaLimit → s.table.policy = .deny →
            answers .denied [3, 0, 0, 0, 0xFF, 0, 0, 0])))))

/-- R30, R34, R38, R39, R40: a range that may be written is held for SHOCK, BATTERY or POWER in that order, answered FULL with
every slot occupied, and otherwise granted: the lowest free slot takes the grant, its generation rises modulo 32, the tag is
formed from both, the deadline starts from the timeout in force, and the entry's grants issued rises. The slot and window of
the FULL answer are the model's reading of R33 (log entry 15). -/
def Obligations.WritesAreHeldOrGranted : Prop :=
  ∀ (s : State) (b3 b2 b1 b0 n1 n0 : Byte) (slot : Option (Fin 64)) (window : Nat), s.listens →
    s.mayWrite (nat4 b3 b2 b1 b0) (nat2 n1 n0) slot window →
    let c := Instr.checkWrite [b3, b2, b1, b0, n1, n0]
    let slotByte : Byte := match slot with | some i => BitVec.ofNat 8 i.val | none => 0xFF
    (∀ reason, s.holdsFor reason →
      Refuses c s
        { code := .hold, payload := [BitVec.ofNat 8 reason, 0, 0, 0, slotByte, BitVec.ofNat 8 window, 0, 0] }) ∧
    ((∀ reason, ¬ s.holdsFor reason) →
      ((∀ k : Fin 8, s.grants.slots[k] ≠ none) →
        Refuses c s { code := .full, payload := [0, 0, 0, 0, 0xFF, 0, 0, 0] }) ∧
      (∀ k : Fin 8, s.grants.slots[k] = none → (∀ j, j < k → s.grants.slots[j] ≠ none) →
        let generation : Fin 32 := s.grants.generations[k] + 1
        let grant : Grant :=
          { tag := generation.val * 8 + k.val, entry := slot, window := window, first := nat4 b3 b2 b1 b0,
            count := nat2 n1 n0, remaining := s.grants.timeout }
        let granted : State := { s with
          grants := { s.grants with
            slots := s.grants.slots.set k (some grant), generations := s.grants.generations.set k generation } }
        Serves c s
          (match slot with
            | some i => granted.modifyEntry i fun e => { e with issued := min 65535 (e.issued + 1) }
            | none => granted)
          { code := .granted,
            payload := [0, n1, n0, BitVec.ofNat 8 grant.tag, slotByte, BitVec.ofNat 8 window] ++
              be2 s.grants.timeout }))

/-- R42, R43, R46, R47, R58, R69: WRITE-DONE of an outstanding tag removes the grant, acts on the entry by its result, settles
the entry and releases a DRAINING sequencer; a tag no grant holds is STALE, and a result above 1 is BAD-ARG. And: R44, R45,
R46, R47: the expiry of a grant's deadline removes the grant, marks the entry it names, raises EXPIRED, settles the entry and
releases a DRAINING sequencer; a free slot has no deadline to expire, and a deadline that has time left has not expired
(R177). That the entry is settled before the sequencer is signalled is the model's reading (log entry 13), and so is what an
expiry that does not happen leaves (log entries 4 and 11). -/
def Obligations.DonesAndExpiriesRemoveGrants : Prop :=
  (∀ (s : State) (tag result : Byte), s.listens →
    let k : Fin 8 := Fin.ofNat 8 tag.toNat
    (1 < result.toNat → Refuses (.writeDone [tag, result]) s { code := .badArg, payload := [] }) ∧
    (result.toNat ≤ 1 → (∀ g, s.grants.slots[k] = some g → g.tag ≠ tag.toNat) →
      Refuses (.writeDone [tag, result]) s { code := .stale, payload := [] }) ∧
    (∀ g, result.toNat ≤ 1 → s.grants.slots[k] = some g → g.tag = tag.toNat →
      let removed : State := { s with grants := { s.grants with slots := s.grants.slots.set k none } }
      (g.entry = none → Serves (.writeDone [tag, result]) s removed.released (okAnswer [0xFF, 0])) ∧
      (∀ i, g.entry = some i →
        ∃ u, Settles i
            (removed.modifyEntry i fun e =>
              if result = 0 then { e with written := min 4294967295 (e.written + g.count) }
              else { e with verify := true }) u ∧
          Serves (.writeDone [tag, result]) s u.released
            (okAnswer (be1 i ++ be1 (u.entry i).state.code))))) ∧
  (∀ (s : State) (k : Fin 8), s.supply.mode ≠ .retain →
    (s.grants.slots[k] = none → exec (.grantDeadlineExpiry k) s = .next s) ∧
    (∀ g, s.grants.slots[k] = some g → g.remaining ≠ 0 → exec (.grantDeadlineExpiry k) s = .next s) ∧
    (∀ g, s.grants.slots[k] = some g → g.remaining = 0 →
      let removed := State.raise .expired { s with grants := { s.grants with slots := s.grants.slots.set k none } }
      (g.entry = none → Becomes (.grantDeadlineExpiry k) s removed.released) ∧
      (∀ i, g.entry = some i →
        ∃ u, Settles i (removed.modifyEntry i fun e => { e with verify := true }) u ∧
          Becomes (.grantDeadlineExpiry k) s u.released)))

/-- R30, R52, R53: whatever command is taken, a slot's generation changes only where a CHECK-WRITE issues a grant in it, by 1
modulo 32, and at a cold start. -/
def Obligations.GenerationsCountGrants : Prop :=
  ∀ (c : Instr) (s t : State) (k : Fin 8), exec c s = .next t →
    t.grants.generations[k] ≠ s.grants.generations[k] →
    (∃ a b, c = .coldStart a b ∧ t.grants.generations[k] = 0) ∨
      ((∃ p, c = .checkWrite p) ∧ t.grants.generations[k] = s.grants.generations[k] + 1 ∧
        s.grants.slots[k] = none ∧ ∃ g, t.grants.slots[k] = some g ∧ g.tag = t.grants.generations[k].val * 8 + k.val)

/-! ## The Motion Guard -/

/-- R75, R76, R77, R78: at an expiry of the sample timer with no transfer in flight the timer is reloaded with the period and
a setup or a read is started; what each puts on the private bus is given step by step; a setup that completes good clears
setup pending and leaves the miss count. And: R94, R107: the settle timer expires in SETTLE: CALM with the run counter 0, the
episode closed, SETTLED raised, and the power-up precondition evaluated; a timer that is stopped, or that an event has started
anew, does not expire (R94, R177). The time spent in FALLING, 0 outside FALLING, is the model's count fallMs (log entry 9).
What an event that does not happen leaves is the model's reading (log entries 4 and 11). -/
def Obligations.SamplingAndSettlingRunOnTimers : Prop :=
  (∀ s : State, s.supply.mode ≠ .retain →
    (s.guard.sampleTimer = some 0 → s.guard.transfer = .none →
      Becomes .sampleTimerExpiry s { s with
        guard := { s.guard with
          sampleTimer := some s.guard.samplePeriod, transfer := if s.guard.setupPending then .setup else .read } }) ∧
    (s.guard.sampleTimer ≠ some 0 → exec .sampleTimerExpiry s = .next s) ∧
    (s.guard.transfer = .setup →
      Becomes (.setupComplete true true true true) s
        { s with guard := { s.guard with transfer := .none, setupPending := false } }) ∧
    (∀ a b c d, s.guard.transfer ≠ .setup → exec (.setupComplete a b c d) s = .next s) ∧
    (∀ a b c data, s.guard.transfer ≠ .read → exec (.readComplete a b c data) s = .next s)) ∧
  (Transfer.none.actions = [] ∧
    Transfer.setup.actions =
      [.start, .address 0x2A .write, .write 0x20, .write 0x57, .write 0x08, .stop] ∧
    Transfer.read.actions =
      [.start, .address 0x2A .write, .write 0x28, .repeatedStart, .address 0x2A .read, .receive true, .receive true,
        .receive true, .receive true, .receive true, .receive false, .stop]) ∧
  (∀ s : State, s.supply.mode ≠ .retain →
    (s.guard.state = .settle → s.guard.settle = some 0 →
      Becomes .settleTimerExpiry s
        (State.powerUpCheck (State.raise .settled { s with
          guard := { s.guard with
            state := .calm, run := 0, settle := none, fallMs := 0,
            episode := { s.guard.episode with isOpen := false } } }))) ∧
    (s.guard.settle ≠ some 0 → exec .settleTimerExpiry s = .next s))

/-- R77 to R81, R107: a transfer still in flight at an expiry, a setup with NAK and a read with NAK or short each miss a
sample: below three the miss count rises; the third takes the guard to BLIND, closing an open episode with the time spent in
FALLING, and raises SENSOR; in BLIND nothing more is missed, and a failed transfer sets setup pending. The time spent in
FALLING is the model's count fallMs (log entry 9). -/
def Obligations.ThreeMissesBlind : Prop :=
  ∀ (s : State) (c : Instr) (g : Guard), s.supply.mode ≠ .retain →
    (c = .sampleTimerExpiry ∧ s.guard.sampleTimer = some 0 ∧ s.guard.transfer ≠ .none ∧
        g = { s.guard with sampleTimer := some s.guard.samplePeriod } ∨
      (∃ x y z u, c = .setupComplete x y z u ∧ (x && y && z && u) = false ∧ s.guard.transfer = .setup ∧
        g = { s.guard with transfer := .none, setupPending := s.guard.setupPending || s.guard.state == .blind }) ∨
      ∃ x y z data, c = .readComplete x y z data ∧ ((x && y && z) = false ∨ data.length < 6) ∧
        s.guard.transfer = .read ∧
        g = { s.guard with transfer := .none, setupPending := s.guard.setupPending || s.guard.state == .blind }) →
    (s.guard.state ≠ .blind → s.guard.misses < 2 →
      Becomes c s { s with guard := { g with misses := s.guard.misses + 1 } }) ∧
    (s.guard.state ≠ .blind → 2 ≤ s.guard.misses →
      Becomes c s
        ((State.raise .sensor { s with
          guard := { g with
            state := .blind, run := 0, settle := none, setupPending := true, misses := 3, fallMs := 0,
            episode := { s.guard.episode with
              isOpen := false,
              duration := if s.guard.state = .falling
                then min 65535 (s.guard.episode.duration + s.guard.fallMs) else s.guard.episode.duration } } }).powerUpCheck)) ∧
    (s.guard.state = .blind → Becomes c s { s with guard := g })

/-- R75, R79, R83, R85, R95: the sample of a good read: the axes divided by 16 and rounded down, m2 exactly, the class by the
squared thresholds, IMPACT above Fi, LOW below Ff and NORMAL between; the miss count is 0 and an open episode notes its m2.
And: R79, R81, R87, R88, R89, R92, R93, R95, R107: what a good sample of each class does in each guard state, but for the
knock and the entry into FALLING, which have statements of their own; a change of guard state evaluates the power-up
precondition where it could hold. In BLIND a good sample of each class raises SENSOR and is then taken as in CALM, with the
precondition evaluated at the change to CALM before the sample is taken (log entry 10). The time spent in FALLING is the
model's count fallMs (log entry 9). -/
def Obligations.SamplesAreMeasuredAndTaken : Prop :=
  (∀ (s : State) (xh xl yh yl zh zl : Byte) (rest : List Byte) (x y z : Int), s.supply.mode ≠ .retain →
    s.guard.transfer = .read → s.guard.state = .calm →
    16 * x ≤ (xh ++ xl).toInt → (xh ++ xl).toInt < 16 * x + 16 → 16 * y ≤ (yh ++ yl).toInt →
    (yh ++ yl).toInt < 16 * y + 16 → 16 * z ≤ (zh ++ zl).toInt → (zh ++ zl).toInt < 16 * z + 16 →
    x * x + y * y + z * z ≤ (s.guard.fi : Int) * s.guard.fi → (s.guard.ff : Int) * s.guard.ff ≤ x * x + y * y + z * z →
    Becomes (.readComplete true true true (xh :: xl :: yh :: yl :: zh :: zl :: rest)) s { s with
      guard := { s.guard with
        transfer := .none, misses := 0,
        lastSample := some
          { x := x, y := y, z := z, m2 := (x * x + y * y + z * z).toNat, cls := .normal },
        episode := if s.guard.episode.isOpen
          then { s.guard.episode with peak := max s.guard.episode.peak (x * x + y * y + z * z).toNat }
          else s.guard.episode } }) ∧
  (∀ (s : State) (data : List Byte) (p : Sample) (g : Guard), s.supply.mode ≠ .retain → s.guard.transfer = .read →
    p.measures s.guard.ff s.guard.fi data →
    g = { s.guard with
      transfer := .none, misses := 0, lastSample := some p,
      episode := if s.guard.episode.isOpen
        then { s.guard.episode with peak := max s.guard.episode.peak p.m2 } else s.guard.episode } →
    let c := Instr.readComplete true true true data
    let run := (if s.guard.state = .calm then 0 else s.guard.run) + 1
    (s.guard.state = .calm → p.cls = .normal → Becomes c s { s with guard := g }) ∧
    (s.guard.state = .calm ∨ s.guard.state = .watch → p.cls = .low → run < s.guard.nf →
      Becomes c s { s with guard := { g with state := .watch, run := run } }) ∧
    (s.guard.state = .watch → p.cls = .normal →
      Becomes c s (State.powerUpCheck { s with guard := { g with state := .calm, run := 0 } })) ∧
    (s.guard.state = .falling → p.cls = .low → Becomes c s { s with guard := { g with run := 0 } }) ∧
    (s.guard.state = .falling → p.cls = .normal → s.guard.run + 1 < s.guard.nf →
      Becomes c s { s with guard := { g with run := s.guard.run + 1 } }) ∧
    (s.guard.state = .falling → p.cls = .impact ∨ (p.cls = .normal ∧ s.guard.nf ≤ s.guard.run + 1) →
      Becomes c s { s with
        guard := { g with
          state := .settle, run := 0, fallMs := 0, settle := some s.guard.settleTime,
          episode := { g.episode with duration := min 65535 (s.guard.episode.duration + s.guard.fallMs) } } }) ∧
    (s.guard.state = .settle → p.cls = .low → run < s.guard.nf →
      Becomes c s { s with guard := { g with run := run } }) ∧
    (s.guard.state = .settle → p.cls = .normal → Becomes c s { s with guard := { g with run := 0 } }) ∧
    (s.guard.state = .settle → p.cls = .impact →
      Becomes c s { s with guard := { g with run := 0, settle := some s.guard.settleTime } }) ∧
    (s.guard.state = .blind → p.cls = .normal →
      Becomes c s (State.powerUpCheck (State.raise .sensor { s with guard := { g with state := .calm } }))) ∧
    (s.guard.state = .blind → p.cls = .low → s.guard.run = 0 → 1 < s.guard.nf →
      let u := State.powerUpCheck (State.raise .sensor { s with guard := { g with state := .calm } })
      Becomes c s { u with guard := { g with state := .watch, run := 1 } }) ∧
    (s.guard.state = .blind →
      ∃ t u, exec c s = .next t ∧
        exec c (State.powerUpCheck (State.raise .sensor { s with guard := { s.guard with state := .calm } })) = .next u ∧
        t.blocks = u.blocks ∧ t.link = s.link ∧ s.dozeTimed t))

/-- R48, R90, R95, R96: an IMPACT sample in CALM or WATCH is a knock: every entry an outstanding grant names is marked once,
the knocks counter rises, a KNOCK episode begins, KNOCK is raised and the guard settles; the sequencer is not told. And: R48,
R91, R95, R96, R107, R116: the LOW sample that completes the run takes the guard to FALLING: the sequencer unloads or stops
with stop cause FALL, every entry an outstanding grant names is marked, the falls counter rises, the episode begins or goes on
as a FALL, and FALL is raised. The count fallMs begins at 0 (log entry 9). -/
def Obligations.KnocksAndFallsMarkEntries : Prop :=
  (∀ (s : State) (data : List Byte) (p : Sample), s.supply.mode ≠ .retain → s.guard.transfer = .read →
    p.measures s.guard.ff s.guard.fi data → p.cls = .impact →
    s.guard.state = .calm ∨ s.guard.state = .watch →
    ∃ t, exec (.readComplete true true true data) s = .next t ∧ s.dozeTimed t ∧
      t.guard = { s.guard with
        state := .settle, run := 0, settle := some s.guard.settleTime, fallMs := 0, transfer := .none, misses := 0,
        lastSample := some p, knocks := min 65535 (s.guard.knocks + 1),
        episode := { kind := .knock, isOpen := true, peak := p.m2, duration := 0, falls := 0 } } ∧
      (∀ i, s.hasGrant i → t.entry i =
        { s.entry i with jolts := min 255 ((s.entry i).jolts + 1), verify := true }) ∧
      (∀ i, ¬ s.hasGrant i → t.entry i = s.entry i) ∧
      t.table.mediaLimit = s.table.mediaLimit ∧ t.table.policy = s.table.policy ∧
      t.attention = { s.attention with pending := s.attention.pending ||| 0x020#11 } ∧
      t.blocks = State.blocks { s with guard := t.guard, table := t.table, attention := t.attention } ∧ t.link = s.link) ∧
  (∀ (s : State) (data : List Byte) (p : Sample), s.supply.mode ≠ .retain → s.guard.transfer = .read →
    p.measures s.guard.ff s.guard.fi data → p.cls = .low →
    (s.guard.state = .calm ∧ s.guard.nf ≤ 1) ∨
      ((s.guard.state = .watch ∨ s.guard.state = .settle) ∧ s.guard.nf ≤ s.guard.run + 1) →
    ∃ t, exec (.readComplete true true true data) s = .next t ∧ s.dozeTimed t ∧
      t.guard = { s.guard with
        state := .falling, run := 0, settle := none, fallMs := 0, transfer := .none, misses := 0, lastSample := some p,
        falls := min 65535 (s.guard.falls + 1),
        episode := if s.guard.state = .settle
          then { s.guard.episode with
            kind := .fall, falls := min 255 (s.guard.episode.falls + 1),
            peak := if s.guard.episode.isOpen then max s.guard.episode.peak p.m2 else s.guard.episode.peak }
          else { kind := .fall, isOpen := true, peak := p.m2, duration := 0, falls := 1 } } ∧
      t.seq = (match s.seq.state with
        | .ready | .draining =>
          { s.seq with state := .unloading, phase := some s.seq.unloadTime, waited := 0, stopCause := .fall }
        | .powering | .spinning =>
          { s.seq with state := .stopping, phase := some s.seq.spinDown, waited := 0, stopCause := .fall }
        | .unloading | .stopping | .cycleWait | .off => s.seq) ∧
      (∀ i, s.hasGrant i → t.entry i =
        { s.entry i with jolts := min 255 ((s.entry i).jolts + 1), verify := true }) ∧
      (∀ i, ¬ s.hasGrant i → t.entry i = s.entry i) ∧
      t.table.mediaLimit = s.table.mediaLimit ∧ t.table.policy = s.table.policy ∧
      t.attention = { s.attention with pending := s.attention.pending ||| 0x001#11 } ∧
      t.blocks = State.blocks { s with
        guard := t.guard, seq := t.seq, table := t.table, attention := t.attention } ∧ t.link = s.link)

/-! ## The Mechanism Sequencer -/

/-- R105, R107, R108, R111, R112: SET-TARGET sets the target, ON clearing the latch; in OFF it powers up where the
precondition holds, in READY a target OFF starts the way down, in DRAINING a target ON returns to READY unless critical on
battery, and in every other state nothing else moves. The answer gives state, target and latch as they then stand, which is
R105 where a sentence of R106 can be read otherwise (log entry 26). -/
def Obligations.TargetIsSet : Prop :=
  ∀ (s : State) (b : Byte), s.listens →
    let on := decide (b = 1)
    let q : Sequencer :=
      if on then { s.seq with target := .on, fault := .clear } else { s.seq with target := .off }
    let criticalOnBattery := s.supply.level = .critical ∧ s.supply.present = false
    let guardAllows := s.guard.state = .calm ∨ (s.guard.state = .blind ∧ s.guard.blindPolicy = .proceed)
    let ends := fun r : Sequencer =>
      Serves (.setTarget [b]) s { s with seq := r } (okAnswer (be1 r.state.code ++ be1 r.target.code ++ be1 r.fault.code))
    (1 < b.toNat → Refuses (.setTarget [b]) s { code := .badArg, payload := [] }) ∧
    (b.toNat ≤ 1 →
      (s.seq.state = .off →
        (on = true → ¬ criticalOnBattery → guardAllows →
          ends { q with state := .powering, phase := some q.supplySettle, waited := 0 }) ∧
        (on = false ∨ criticalOnBattery ∨ ¬ guardAllows → ends q)) ∧
      (s.seq.state = .ready →
        (on = true → ends q) ∧
        (on = false → (∀ k : Fin 8, s.grants.slots[k] = none) →
          ends { q with state := .unloading, phase := some q.unloadTime, waited := 0, stopCause := .target }) ∧
        (on = false → (∃ k : Fin 8, s.grants.slots[k] ≠ none) →
          ends { q with state := .draining, phase := none, waited := 0, stopCause := .target })) ∧
      (s.seq.state = .draining →
        (on = true → ¬ criticalOnBattery → ends { q with state := .ready, phase := none, waited := 0 }) ∧
        (on = false ∨ criticalOnBattery → ends q)) ∧
      (s.seq.state ≠ .off → s.seq.state ≠ .ready → s.seq.state ≠ .draining → ends q))

/-- R104, R109, R110, R113, R114, R115, R118: what the expiry of the phase timer does in each timed state: SPINNING after the
supply settle, or READY at once with DRDY asserted; STOPPING with the fault latched and the target OFF after the spin timeout;
STOPPING after the unload; CYCLE_WAIT after the spin-down; OFF after the cycle delay, with MECHANISM raised and the
precondition evaluated. An expiry belonging to another state, or to a run of the timer that has been stopped or replaced, does
not happen (R177; log entries 4 and 11). -/
def Obligations.PhasesFollowInOrder : Prop :=
  ∀ s : State, s.supply.mode ≠ .retain →
    (s.seq.phase = some 0 →
      (s.seq.state = .powering → s.pins.drdy = false →
        Becomes .supplySettleExpiry s
          { s with seq := { s.seq with state := .spinning, phase := some s.seq.spinTimeout, waited := 0 } }) ∧
      (s.seq.state = .powering → s.pins.drdy = true → s.offDemand = false →
        Becomes .supplySettleExpiry s
          (State.raise .mechanism { s with seq := { s.seq with state := .ready, phase := none, waited := 0 } })) ∧
      (s.seq.state = .powering → s.pins.drdy = true → s.offDemand = true →
        Becomes .supplySettleExpiry s
          (State.raise .mechanism { s with
            seq := { s.seq with
              state := if s.grantsEmpty then .unloading else .draining,
              phase := if s.grantsEmpty then some s.seq.unloadTime else none, waited := 0,
              stopCause := if s.seq.target = .off then .target else .battery } })) ∧
      (s.seq.state = .spinning →
        Becomes .spinTimeoutExpiry s
          (State.raise .mechanism { s with
            seq := { s.seq with
              state := .stopping, phase := some s.seq.spinDown, waited := 0, fault := .spinTimeout, target := .off,
              stopCause := .spinTimeout } })) ∧
      (s.seq.state = .unloading →
        Becomes .unloadTimeExpiry s
          { s with seq := { s.seq with state := .stopping, phase := some s.seq.spinDown, waited := 0 } }) ∧
      (s.seq.state = .stopping → s.seq.cycleDelay ≠ 0 →
        Becomes .spinDownExpiry s
          { s with seq := { s.seq with state := .cycleWait, phase := some s.seq.cycleDelay, waited := 0 } }) ∧
      (s.seq.state = .stopping → s.seq.cycleDelay = 0 →
        Becomes .spinDownExpiry s
          (State.raise .mechanism
            { s with seq := { s.seq with state := .off, phase := none, waited := 0 } }).powerUpCheck) ∧
      (s.seq.state = .cycleWait →
        Becomes .cycleDelayExpiry s
          (State.raise .mechanism
            { s with seq := { s.seq with state := .off, phase := none, waited := 0 } }).powerUpCheck)) ∧
    (s.seq.phase ≠ some 0 ∨ s.seq.state ≠ .powering → exec .supplySettleExpiry s = .next s) ∧
    (s.seq.phase ≠ some 0 ∨ s.seq.state ≠ .spinning → exec .spinTimeoutExpiry s = .next s) ∧
    (s.seq.phase ≠ some 0 ∨ s.seq.state ≠ .unloading → exec .unloadTimeExpiry s = .next s) ∧
    (s.seq.phase ≠ some 0 ∨ s.seq.state ≠ .stopping → exec .spinDownExpiry s = .next s) ∧
    (s.seq.phase ≠ some 0 ∨ s.seq.state ≠ .cycleWait → exec .cycleDelayExpiry s = .next s)

/-- R107: an evaluation of the power-up precondition, as a command that enters OFF or changes a term makes it: POWERING where
all four terms hold in OFF, and nothing otherwise. And: R9, R166: after a change of n_open the level is evaluated, with no
empty correction and critical-on-battery as it stood. And: R106, R157, R164, R165, R166: what an evaluation does: the level by
the table's first row that holds, BATTERY raised exactly on a change, and critical-on-battery handed to the sequencer: its
arising starts the way down in READY and stops a power-up, its ceasing returns DRAINING to READY, and in OFF it wakes a part
in DOZE with the target ON and evaluates the precondition. -/
def Obligations.PreconditionAndLevelAreJudged : Prop :=
  (∀ s : State,
    (s.seq.state = .off → s.seq.target = .on → ¬ (s.supply.level = .critical ∧ s.supply.present = false) →
      s.guard.state = .calm ∨ (s.guard.state = .blind ∧ s.guard.blindPolicy = .proceed) → s.seq.fault = .clear →
      s.powerUpCheck =
        { s with seq := { s.seq with state := .powering, phase := some s.seq.supplySettle, waited := 0 } }) ∧
    (s.seq.state ≠ .off ∨ s.seq.target = .off ∨ (s.supply.level = .critical ∧ s.supply.present = false) ∨
      s.guard.state = .watch ∨ s.guard.state = .falling ∨ s.guard.state = .settle ∨
      (s.guard.state = .blind ∧ s.guard.blindPolicy = .hold) ∨ s.seq.fault ≠ .clear → s.powerUpCheck = s)) ∧
  (∀ s : State, s.openChanged = s.evaluate s.critical false) ∧
  (∀ (s : State) (was empty : Bool),
    let u := s.supply
    let q := s.gauge.q
    let thr := u.rPark + (s.nOpen + 1) * u.rEntry
    let level : Level := match u.level with
      | .ample => if empty = true ∨ q < u.rPark then .critical else if q < thr then .low else .ample
      | .low => if empty = true ∨ q < u.rPark then .critical else if thr + u.hyst ≤ q then .ample else .low
      | .critical =>
        if empty = true then .critical
        else if thr + u.hyst ≤ q then .ample
        else if u.rPark + u.hyst ≤ q then .low
        else .critical
    let judged : State := { s with
      supply := { u with level := level },
      attention := { s.attention with
        pending := if level = u.level then s.attention.pending else s.attention.pending ||| 0x002#11 } }
    let now := decide (level = .critical) && !u.present
    (was = now → s.evaluate was empty = judged) ∧
    (was = false → now = true →
      (s.seq.state = .ready → s.evaluate was empty = judged.wayDown) ∧
      (s.seq.state = .powering ∨ s.seq.state = .spinning → s.evaluate was empty = { judged with
        seq := { s.seq with state := .stopping, phase := some s.seq.spinDown, waited := 0, stopCause := .battery } }) ∧
      (s.seq.state ≠ .ready → s.seq.state ≠ .powering → s.seq.state ≠ .spinning → s.evaluate was empty = judged)) ∧
    (was = true → now = false →
      (s.seq.state = .draining → s.seq.target = .on →
        s.evaluate was empty = { judged with seq := { s.seq with state := .ready, phase := none, waited := 0 } }) ∧
      (s.seq.state = .draining → s.seq.target = .off → s.evaluate was empty = judged) ∧
      (s.seq.state = .off → u.mode = .run → s.evaluate was empty = judged.powerUpCheck) ∧
      (s.seq.state = .off → u.mode = .doze → s.seq.target = .on →
        s.evaluate was empty = State.powerUpCheck { judged with
          supply := { judged.supply with mode := .run },
          guard := { s.guard with
            state := .calm, run := 0, settle := none, transfer := .none, setupPending := true, misses := 0,
            lastSample := none, sampleTimer := some s.guard.samplePeriod } }) ∧
      (s.seq.state = .off → u.mode = .doze → s.seq.target = .off → s.evaluate was empty = judged) ∧
      (s.seq.state ≠ .draining → s.seq.state ≠ .off → s.evaluate was empty = judged)))

/-- R110, R111, R117, R118: DRDY asserted in SPINNING enters READY and raises MECHANISM, and off demand then judged sends it
down at once; DRDY released in READY or DRAINING unloads with the fault latched and the target OFF; elsewhere only the line
changes. DRDY is kept as its commands set it (log entry 18). -/
def Obligations.ReadyLineMovesTheSequencer : Prop :=
  ∀ s : State, s.supply.mode ≠ .retain →
    let high : State := { s with pins := { s.pins with drdy := true } }
    let low : State := { s with pins := { s.pins with drdy := false } }
    let cause : StopCause := if s.seq.target = .off then .target else .battery
    (s.seq.state = .spinning →
      (s.offDemand = false →
        Becomes .drdyAsserted s
          (State.raise .mechanism { high with seq := { s.seq with state := .ready, phase := none, waited := 0 } })) ∧
      (s.offDemand = true → s.grantsEmpty = true →
        Becomes .drdyAsserted s
          (State.raise .mechanism { high with
            seq := { s.seq with
              state := .unloading, phase := some s.seq.unloadTime, waited := 0, stopCause := cause } })) ∧
      (s.offDemand = true → s.grantsEmpty = false →
        Becomes .drdyAsserted s
          (State.raise .mechanism { high with
            seq := { s.seq with state := .draining, phase := none, waited := 0, stopCause := cause } }))) ∧
    (s.seq.state ≠ .spinning → Becomes .drdyAsserted s high) ∧
    (s.seq.state = .ready ∨ s.seq.state = .draining →
      Becomes .drdyReleased s
        (State.raise .mechanism { low with
          seq := { s.seq with
            state := .unloading, phase := some s.seq.unloadTime, waited := 0, fault := .readyLost, target := .off,
            stopCause := .readyLost } })) ∧
    (s.seq.state ≠ .ready → s.seq.state ≠ .draining → Becomes .drdyReleased s low)

/-! ## The Charge Gauge -/

/-- R127 to R133, R141, R142, R144: a counted period end: the current is the code times K; its charge joins the residue, whose
whole µAh, truncated toward zero, move into Q; Q is clamped, discarding the residue beyond; S, the current sum, the runs and P
follow; the timer reloads and the level is evaluated. Here no correction completes. -/
def Obligations.PeriodEndCountsCharge : Prop :=
  ∀ (s : State) (code volts : BitVec 16), s.supply.mode ≠ .retain → s.gauge.timer = some 0 →
    s.gauge.estimatePending = false → s.gauge.capacity ≠ 0 →
    let g := s.gauge
    let current := code.toInt * g.scale
    let cf := g.capacity * 1000
    let sum := g.residue + current * g.runningLength
    let d := sum.tdiv 3600000
    let q := (g.q : Int) + d
    let empty := volts.toNat < g.vEmpty ∧ current ≤ 0
    let full := s.supply.present = true ∧ g.vFull ≤ volts.toNat ∧ 0 ≤ current ∧ current ≤ (g.taper * 1000 : Nat)
    let q' := if q < 0 then 0 else if (cf : Int) < q then cf else q.toNat
    let s' := q' * 1000 / cf
    let slews := decide (s.gauge.slewCount = 3)
    (empty → g.emptyRun < 2) → (full → g.fullRun < 7) → g.slewCount ≤ 3 → g.currents.length ≤ 4 →
    Becomes (.periodEnd code volts) s (State.evaluate s.critical false { s with
      gauge := { g with
        current := current, volts := volts.toNat, q := q',
        residue := if q < 0 ∨ (cf : Int) < q then 0 else sum - d * 3600000, s := s',
        currents := if g.currents.length = 4 then g.currents.tail ++ [current] else g.currents ++ [current],
        emptyRun := if empty then g.emptyRun + 1 else 0, fullRun := if full then g.fullRun + 1 else 0,
        p := if g.snapPending then s'
          else if slews then
            (if g.p < s' then min s' (g.p + g.slewStep) else if s' < g.p then max s' (g.p - g.slewStep) else g.p)
          else g.p,
        slewCount := if g.snapPending ∨ slews then 0 else g.slewCount + 1, snapPending := false,
        timer := some g.period, runningLength := g.period } })

/-- R131, R134, R135, R136, R141, R142, R165: the third passing empty test and the eighth passing full test: Q and the residue
take the bound, S and P follow, the uncertain flag is cleared, the run begins again, and the empty correction is reported with
Q. -/
def Obligations.CorrectionsSetTheBound : Prop :=
  ∀ (s : State) (code volts : BitVec 16), s.supply.mode ≠ .retain → s.gauge.timer = some 0 →
    s.gauge.estimatePending = false → s.gauge.vEmpty < s.gauge.vFull →
    let g := s.gauge
    let current := code.toInt * g.scale
    let currents := if 4 ≤ g.currents.length then g.currents.tail ++ [current] else g.currents ++ [current]
    (volts.toNat < g.vEmpty → current ≤ 0 → g.emptyRun = 2 →
      Becomes (.periodEnd code volts) s (State.evaluate s.critical true { s with
        gauge := { g with
          current := current, volts := volts.toNat, q := 0, residue := 0, s := 0, p := 0, uncertain := false,
          currents := currents, emptyRun := 0, fullRun := 0, slewCount := 0, snapPending := false,
          timer := some g.period, runningLength := g.period } })) ∧
    (s.supply.present = true → g.vFull ≤ volts.toNat → 0 ≤ current → current ≤ (g.taper * 1000 : Nat) →
      g.fullRun = 7 →
      Becomes (.periodEnd code volts) s (State.evaluate s.critical false { s with
        gauge := { g with
          current := current, volts := volts.toNat, q := g.capacity * 1000, residue := 0, s := 1000, p := 1000,
          uncertain := false, currents := currents, emptyRun := 0, fullRun := 0, slewCount := 0, snapPending := false,
          timer := some g.period, runningLength := g.period } }))

/-- R127, R129, R139, R142: the first period end that finds estimate pending sets Q from the voltage, counts nothing and
appends nothing; the uncertain flag stays. A gauge timer that is stopped or has time left has no period end (R177; log entries
4 and 11). And: R137, R142, R144: SET-CHARGE sets Q, clamped to the capacity, clears the residue, the uncertain flag and
estimate pending, snaps P to S and hands Q on; the answer is the charge taken in mAh and S. -/
def Obligations.ChargeIsEstimatedOrSet : Prop :=
  (∀ (s : State) (code volts : BitVec 16), s.supply.mode ≠ .retain →
    let g := s.gauge
    let cf := g.capacity * 1000
    let v := volts.toNat
    let q := if v ≤ g.vEmpty then 0 else if g.vFull ≤ v then cf else cf * (v - g.vEmpty) / (g.vFull - g.vEmpty)
    (g.timer = some 0 → g.estimatePending = true →
      Becomes (.periodEnd code volts) s (State.evaluate s.critical false { s with
        gauge := { g with
          current := code.toInt * g.scale, volts := v, q := q, residue := 0, s := q * 1000 / cf, p := q * 1000 / cf,
          slewCount := 0, snapPending := false, estimatePending := false, timer := some g.period,
          runningLength := g.period } })) ∧
    (g.timer ≠ some 0 → exec (.periodEnd code volts) s = .next s)) ∧
  (∀ (s : State) (b1 b0 : Byte), s.listens →
    let g := s.gauge
    let mAh := min (nat2 b1 b0) g.capacity
    let perMille := mAh * 1000 * 1000 / (g.capacity * 1000)
    Serves (.setCharge [b1, b0]) s
      (State.evaluate s.critical false { s with
        gauge := { g with
          q := mAh * 1000, residue := 0, s := perMille, p := perMille, slewCount := 0, uncertain := false,
          estimatePending := false } })
      (okAnswer (be2 mAh ++ be2 perMille)))

/-! ## Supplies and reserve -/

/-- R153, R157: a change of SPRS sets supply present, raises SUPPLY and evaluates the level; in DOZE the supply appearing
leaves DOZE for RUN with the guard restarted. A line that reads as it did is no change. And: R98, R155, R157, R184: the doze
timer expires with the doze condition holding: the part enters DOZE, the guard stops sampling in CALM and the doze flag is
set; nothing else moves. A doze timer that is stopped, or that has been started anew, does not expire (R177). The cases in
which nothing happens are the model's reading (log entries 4 and 11). -/
def Obligations.SupplyAndDozeChangeTheMode : Prop :=
  (∀ (s : State) (present : Bool), s.supply.mode ≠ .retain →
    (s.supply.present ≠ present → s.supply.mode = .run ∨ present = false →
      Becomes (.sprsChange present) s
        ((State.raise .supply { s with supply := { s.supply with present := present } }).evaluate s.critical false)) ∧
    (s.supply.present = false → present = true → s.supply.mode = .doze →
      Becomes (.sprsChange present) s
        ((State.raise .supply { s with
          supply := { s.supply with present := true, mode := .run },
          guard := { s.guard with
            state := .calm, run := 0, settle := none, transfer := .none, setupPending := true, misses := 0,
            lastSample := none, sampleTimer := some s.guard.samplePeriod } }).evaluate s.critical false)) ∧
    (s.supply.present = present → exec (.sprsChange present) s = .next s)) ∧
  (∀ s : State,
    (s.supply.mode = .run → s.supply.present = false → s.seq.state = .off → s.grantsEmpty = true →
      s.guard.state = .calm → s.link.state = .idle → s.supply.dozeTimer = some 0 →
      exec .dozeTimerExpiry s = .next { s with
        supply := { s.supply with mode := .doze, dozeTimer := none },
        attention := { s.attention with dozeFlag := true },
        guard := { s.guard with
          run := 0, settle := none, transfer := .none, setupPending := true, misses := 0, lastSample := none,
          sampleTimer := none } }) ∧
    (s.supply.mode ≠ .retain → s.supply.dozeTimer ≠ some 0 → exec .dozeTimerExpiry s = .next s))

/-- R32, R99, R122, R147, R158, R188, R200: the entry to RETAIN: the mode, the guard stopped with an open episode closed, the
lines released with SUPPLY-LOSS recorded where the sequencer was powered, the gauge and the doze timer stopped, the pending
set, the request, the answer and the transfers that waited lost (log entry 23); the tables, the clocks, the parameters and
every retained item stand. In RETAIN a loss of the store marks it invalid, and elsewhere it does not happen (R152). And: R32,
R158: no expiry, sensor completion, period end, supply change, end of a forming or end of a waking transfer is an event in
RETAIN, and of DRDY and LCLR_N only the level is kept (log entry 18). The time spent in FALLING, which the closing of an open
episode adds to its duration, is the model's count fallMs (log entry 9). What RETAIN does not keep has the values the model
gives it (log entry 8), and the cases in which nothing happens are the model's reading (log entry 11). -/
def Obligations.RetainKeepsTheStore : Prop :=
  ∀ s : State,
    (s.supply.mode ≠ .retain → ∃ t, exec .enterRetain s = .next t ∧
      t.supply = { s.supply with mode := .retain, dozeTimer := none } ∧ t.table = s.table ∧ t.grants = s.grants ∧
      t.clock = s.clock ∧ t.pins = s.pins ∧ t.parameterTable = s.parameterTable ∧
      t.guard.falls = s.guard.falls ∧ t.guard.knocks = s.guard.knocks ∧
      t.guard.sampleTimer = none ∧ t.guard.settle = none ∧ t.guard.transfer = .none ∧
      t.guard.episode = { s.guard.episode with
        isOpen := false,
        duration := if s.guard.state = .falling
          then min 65535 (s.guard.episode.duration + s.guard.fallMs) else s.guard.episode.duration } ∧
      t.lines = (false, false, false) ∧ t.seq.phase = none ∧ t.seq.target = s.seq.target ∧ t.seq.fault = s.seq.fault ∧
      t.seq.stopCause = (if s.seq.state = .off ∨ s.seq.state = .cycleWait then s.seq.stopCause else .supplyLoss) ∧
      t.gauge.q = s.gauge.q ∧ t.gauge.s = s.gauge.s ∧ t.gauge.p = s.gauge.p ∧
      t.gauge.uncertain = s.gauge.uncertain ∧ t.gauge.estimatePending = s.gauge.estimatePending ∧
      t.gauge.timer = none ∧ t.attention.pending = 0 ∧ t.attention.dozeFlag = false ∧ t.attnAsserted = false ∧
      t.link.state = .idle ∧ t.link.buffer = [] ∧ t.link.count = 0 ∧ t.link.answer = none ∧ t.link.forming = none ∧
      t.link.held = []) ∧
    (s.supply.mode = .retain → exec .retainedContentsLoss s =
      .next { s with supply := { s.supply with storeValid := false } }) ∧
    (s.supply.mode ≠ .retain → exec .retainedContentsLoss s = .next s) ∧
    (s.supply.mode = .retain →
      (∀ c ∈ [Instr.enterRetain, .answerFormed, .wakingTransferEnd, .sampleTimerExpiry, .settleTimerExpiry,
          .supplySettleExpiry, .spinTimeoutExpiry, .unloadTimeExpiry, .spinDownExpiry, .cycleDelayExpiry,
          .dozeTimerExpiry], exec c s = .next s) ∧
      (∀ k, exec (.grantDeadlineExpiry k) s = .next s) ∧
      (∀ a b c d, exec (.setupComplete a b c d) s = .next s) ∧
      (∀ a b c data, exec (.readComplete a b c data) s = .next s) ∧
      (∀ code volts, exec (.periodEnd code volts) s = .next s) ∧
      (∀ present, exec (.sprsChange present) s = .next s) ∧
      exec .drdyAsserted s = .next { s with pins := { s.pins with drdy := true } } ∧
      exec .drdyReleased s = .next { s with pins := { s.pins with drdy := false } } ∧
      exec .linkClear s = .next { s with pins := { s.pins with lclrN := false } })

/-! ## Starts -/

/-- R27, R52, R101, R119, R123, R126, R148, R160, R174, R179, R189, R191, R200, R206: what a cold start leaves: every item at
its cold-start value, whatever the state before it. -/
def Obligations.ColdStartValues : Prop :=
  ∀ (s : State) (sprs adsel : Bool), s.supply.mode = .retain → s.supply.storeValid = false →
    ∃ t, exec (.coldStart sprs adsel) s = .next t ∧
      (∀ i, t.entry i =
        { state := .free, number := none, label := [], windows := [], opened := none, sealed := none, hold := none,
          verify := false, issued := 0, written := 0, jolts := 0 }) ∧
      (∀ k : Fin 8, t.grants.slots[k] = none ∧ t.grants.generations[k] = 0) ∧
      t.parameterTable =
        [(0x01, 4294967295), (0x02, 0), (0x08, 2000), (0x10, 2), (0x11, 77), (0x12, 1536), (0x13, 12), (0x14, 500),
         (0x15, 0), (0x18, 50), (0x19, 4000), (0x1A, 300), (0x1B, 1200), (0x1C, 1000), (0x20, 250), (0x21, 100),
         (0x22, 3400), (0x23, 3300), (0x24, 4150), (0x25, 100), (0x26, 5), (0x28, 20), (0x29, 5), (0x2A, 10),
         (0x2B, 5), (0x30, 0)] ∧
      t.guard.state = .calm ∧ t.guard.setupPending = true ∧ t.guard.misses = 0 ∧ t.guard.run = 0 ∧
      t.guard.lastSample = none ∧ t.guard.transfer = .none ∧ t.guard.sampleTimer = some 2 ∧ t.guard.settle = none ∧
      t.guard.falls = 0 ∧ t.guard.knocks = 0 ∧
      t.guard.episode = { kind := .none, isOpen := false, peak := 0, duration := 0, falls := 0 } ∧
      t.seq.state = .cycleWait ∧ t.seq.waited = 0 ∧ t.seq.phase = some 1000 ∧ t.seq.target = .off ∧
      t.seq.fault = .clear ∧ t.seq.stopCause = .none ∧ t.lines = (false, false, false) ∧
      t.gauge.q = 0 ∧ t.gauge.residue = 0 ∧ t.gauge.s = 0 ∧ t.gauge.p = 0 ∧ t.gauge.uncertain = true ∧
      t.gauge.estimatePending = true ∧ t.gauge.snapPending = false ∧ t.gauge.current = 0 ∧ t.gauge.volts = 0 ∧
      t.gauge.currents = [] ∧ t.gauge.emptyRun = 0 ∧ t.gauge.fullRun = 0 ∧ t.gauge.slewCount = 0 ∧
      t.gauge.runningLength = 250 ∧ t.gauge.timer = some 250 ∧
      t.supply.mode = .run ∧ t.supply.present = sprs ∧ t.supply.level = .critical ∧ t.supply.lost = true ∧
      t.supply.startKind = .cold ∧ t.supply.dozeTimer = none ∧ t.supply.storeValid = true ∧
      t.clock = { runSeconds := 0, driveClock := 0 } ∧
      (∀ cause, t.isPending cause = true ↔ cause = .restarted) ∧ t.attention.dozeFlag = false ∧
      t.attnAsserted = true ∧
      t.link.state = .idle ∧ t.link.buffer = [] ∧ t.link.count = 0 ∧ t.link.answer = none ∧ t.link.held = [] ∧
      t.link.address = (if adsel then 0x2D else 0x2C)

/-- R28, R53, R99, R123, R149, R161, R189, R191: what a warm start leaves: entries named by a grant marked, RETIRING entries
freed, the grant table emptied with its generations kept, the guard, the sequencer and the gauge at their start values (a
cycle delay of 0 ends the wait within the start, R115), supply present as SPRS reads, the level as the evaluation of the start
makes it from the level kept, on the retained Q and the surveys then open (R165, R166), and the causes of the start pending.
The doze timer is stopped (R156, R178), also where the start completes the doze condition: there R155 can be read otherwise,
and that it stays stopped is the model's choice (log entry 22). -/
def Obligations.WarmStartKeepsTheStore : Prop :=
  ∀ (s : State) (sprs adsel : Bool), s.supply.mode = .retain → s.supply.storeValid = true →
    ∃ t, exec (.warmStart sprs adsel) s = .next t ∧
      (∀ i, (s.entry i).state = .retiring → t.entry i =
        { state := .free, number := none, label := [], windows := [], opened := none, sealed := none, hold := none,
          verify := false, issued := 0, written := 0, jolts := 0 }) ∧
      (∀ i, (s.entry i).state ≠ .retiring → s.hasGrant i → t.entry i = { s.entry i with verify := true }) ∧
      (∀ i, (s.entry i).state ≠ .retiring → ¬ s.hasGrant i → t.entry i = s.entry i) ∧
      (∀ k : Fin 8, t.grants.slots[k] = none) ∧ t.grants.generations = s.grants.generations ∧
      t.parameterTable = s.parameterTable ∧ t.clock = s.clock ∧
      t.guard.state = .calm ∧ t.guard.setupPending = true ∧ t.guard.misses = 0 ∧ t.guard.run = 0 ∧
      t.guard.lastSample = none ∧ t.guard.transfer = .none ∧ t.guard.settle = none ∧
      t.guard.sampleTimer = some s.guard.samplePeriod ∧ t.guard.falls = s.guard.falls ∧
      t.guard.knocks = s.guard.knocks ∧ t.guard.episode = s.guard.episode ∧
      t.seq = { s.seq with
        state := if s.seq.cycleDelay = 0 then .off else .cycleWait, target := .off, waited := 0,
        phase := if s.seq.cycleDelay = 0 then none else some s.seq.cycleDelay } ∧
      t.gauge = { s.gauge with
        residue := 0, uncertain := true, snapPending := true, current := 0, volts := 0, currents := [], emptyRun := 0,
        fullRun := 0, slewCount := 0, timer := some s.gauge.period, runningLength := s.gauge.period } ∧
      t.supply = { s.supply with
        mode := .run, present := sprs, startKind := .warm, storeValid := true, level := t.startLevel s.supply.level,
        dozeTimer := none } ∧
      t.attention.mask = s.attention.mask ∧ t.attention.dozeFlag = false ∧
      (∀ cause, t.isPending cause = true ↔
        cause = .restarted ∨ (cause = .supply ∧ sprs ≠ s.supply.present) ∨
          (cause = .mechanism ∧ s.seq.cycleDelay = 0) ∨ (cause = .freed ∧ ∃ i, (s.entry i).state = .retiring) ∨
          (cause = .battery ∧ t.supply.level ≠ s.supply.level)) ∧
      t.link.state = .idle ∧ t.link.answer = none ∧ t.link.held = [] ∧ t.link.address = (if adsel then 0x2D else 0x2C)

/-- R159: a start at VMAIN's return is cold exactly where the store is invalid and warm exactly where it is valid, and neither
is taken outside RETAIN. And: R152, R158, R161: a warm start sees nothing of what RETAIN did not keep: two states in RETAIN
that agree on the retained items lead to states that agree on every block. The model's count fallMs of the time spent in
FALLING (log entry 9) is taken to agree too. That a start which cannot happen leaves the state unchanged is the model's
reading (log entry 11). -/
def Obligations.OnlyTheStoreReachesTheStart : Prop :=
  (∀ (s : State) (sprs adsel : Bool),
    (s.supply.mode ≠ .retain ∨ s.supply.storeValid = true → exec (.coldStart sprs adsel) s = .next s) ∧
    (s.supply.mode ≠ .retain ∨ s.supply.storeValid = false → exec (.warmStart sprs adsel) s = .next s)) ∧
  (∀ (s r : State) (sprs adsel : Bool), s.supply.mode = .retain → r.supply.mode = .retain →
    s.table = r.table → s.grants = r.grants → s.clock = r.clock → s.parameterTable = r.parameterTable →
    s.supply = r.supply → s.pins = r.pins → s.pending = r.pending → s.freeCount = r.freeCount →
    s.guard.falls = r.guard.falls → s.guard.knocks = r.guard.knocks → s.guard.episode = r.guard.episode →
    s.guard.fallMs = r.guard.fallMs →
    s.seq.fault = r.seq.fault → s.seq.stopCause = r.seq.stopCause →
    s.gauge.q = r.gauge.q → s.gauge.s = r.gauge.s → s.gauge.p = r.gauge.p →
    s.gauge.estimatePending = r.gauge.estimatePending → s.supply.storeValid = true →
    ∃ t t', exec (.warmStart sprs adsel) s = .next t ∧ exec (.warmStart sprs adsel) r = .next t' ∧ t.blocks = t'.blocks)

/-- R28, R53, R100, R124, R150, R162, R189: what RESTART leaves: the table settled, the grants emptied, the guard in CALM with
its episode closed, the target OFF and the disk on its way down with stop cause RESTART, the gauge and the clocks as they
were, the level as the evaluation of the start makes it (R165, R166), the causes of the start pending, and the answer OK being
formed. The time spent in FALLING, which the closing of an open episode adds to its duration, is the model's count fallMs,
which is then 0 (log entry 9). -/
def Obligations.RestartBeginsAgain : Prop :=
  ∀ s : State, s.listens →
    ∃ t, exec (.restart []) s = .next t ∧
      (∀ i, (s.entry i).state = .retiring → t.entry i =
        { state := .free, number := none, label := [], windows := [], opened := none, sealed := none, hold := none,
          verify := false, issued := 0, written := 0, jolts := 0 }) ∧
      (∀ i, (s.entry i).state ≠ .retiring → s.hasGrant i → t.entry i = { s.entry i with verify := true }) ∧
      (∀ i, (s.entry i).state ≠ .retiring → ¬ s.hasGrant i → t.entry i = s.entry i) ∧
      (∀ k : Fin 8, t.grants.slots[k] = none) ∧ t.grants.generations = s.grants.generations ∧
      t.parameterTable = s.parameterTable ∧ t.clock = s.clock ∧ t.gauge = s.gauge ∧ t.pins = s.pins ∧
      t.guard = { s.guard with
        state := .calm, run := 0, settle := none, fallMs := 0, transfer := .none, setupPending := true, misses := 0,
        lastSample := none, sampleTimer := some s.guard.samplePeriod,
        episode := { s.guard.episode with
          isOpen := false,
          duration := if s.guard.state = .falling
            then min 65535 (s.guard.episode.duration + s.guard.fallMs) else s.guard.episode.duration } } ∧
      t.seq = (match s.seq.state with
        | .ready | .draining =>
          { s.seq with
            target := .off, state := .unloading, phase := some s.seq.unloadTime, waited := 0, stopCause := .restart }
        | .powering | .spinning =>
          { s.seq with
            target := .off, state := .stopping, phase := some s.seq.spinDown, waited := 0, stopCause := .restart }
        | .unloading | .stopping | .cycleWait => { s.seq with target := .off }
        | .off => { s.seq with target := .off, phase := none }) ∧
      t.supply = { s.supply with
        startKind := .request, dozeTimer := none, storeValid := true, level := t.startLevel s.supply.level } ∧
      t.attention.mask = s.attention.mask ∧ t.attention.dozeFlag = false ∧
      (∀ cause, t.isPending cause = true ↔
        cause = .restarted ∨ (cause = .freed ∧ ∃ i, (s.entry i).state = .retiring) ∨
          (cause = .battery ∧ t.supply.level ≠ s.supply.level)) ∧
      t.link = s.link.answering (okAnswer [])

/-! ## Invariants -/

/-- The machine right after reset is in order in every block. The levels of the input lines at reset are the model's choice
(log entry 1). -/
def Obligations.ResetIsInOrder : Prop :=
  State.reset.tableInOrder ∧ State.reset.grantsInOrder ∧ State.reset.guardInOrder ∧ State.reset.sequencerInOrder ∧
    State.reset.gauge.inOrder ∧ State.reset.reserveInOrder ∧ State.reset.dozeInOrder

/-- R1, R4, R5, R6, R7: every step keeps the Survey Table in order: records within their fields, survey numbers distinct,
windows aligned, within the media limit and free of overlap, and no more of them than the pool holds. The grants are taken to
be in order too, so that none names a FREE entry (GrantsStayInOrder says that they stay so). -/
def Obligations.TableStaysInOrder : Prop :=
  ∀ s t : State, s.tableInOrder → s.grantsInOrder → step s = .next t → t.tableInOrder

/-- R29, R30, R46, R56: every step keeps the grant table in order with the entries it names: a grant's tag is its slot's, its
range lies in one window of an entry in OPEN, CLOSING or RETIRING; RETIRING has a grant, SEALED has neither grant nor mark,
CLOSING has one of them. -/
def Obligations.GrantsStayInOrder : Prop :=
  ∀ s t : State, s.grantsInOrder → step s = .next t → t.grantsInOrder

/-- R80, R84, R86, R87, R94, R95, R98, R99: every step keeps the guard in order: Ff below Fi, the run below Nf, three misses
exactly in BLIND, the settle timer running exactly in SETTLE, an episode open exactly in FALLING and SETTLE, CALM with no
sampling and no transfer in DOZE (R98), and the timers stopped and no transfer in RETAIN (R99). That the guard stands in CALM
in RETAIN too is the model's choice: R99 retains neither the guard state nor the miss count nor the run counter, and gives no
value of them there (log entry 8). -/
def Obligations.GuardStaysInOrder : Prop :=
  ∀ s t : State, s.guardInOrder → step s = .next t → t.guardInOrder

/-- R91, R104, R106, R107, R111, R112, R118: every step keeps the sequencer in order: no power-up and no READY while the guard
is FALLING, no off demand in READY, DRAINING only with off demand and a grant outstanding, no latch with the target ON, a
phase timer exactly in the timed states, and, outside RETAIN, no OFF in which the power-up precondition holds. Of the items
that RETAIN does not keep, it says there what the model's values for them are (log entry 8). -/
def Obligations.SequencerStaysInOrder : Prop :=
  ∀ s t : State, s.guardInOrder → s.sequencerInOrder → step s = .next t → t.sequencerInOrder

/-- R125, R130, R131, R132, R133, R136: every step keeps the gauge in order: Q within the capacity, S what Q and the capacity
give, P within 1000, the residue below one µAh, and at most one run above 0. Of the items that RETAIN does not keep, it says
there what the model's values for them are (log entry 8). -/
def Obligations.GaugeStaysInOrder : Prop :=
  ∀ s t : State, s.gauge.inOrder → step s = .next t → t.gauge.inOrder

/-- R165: every step keeps the reserve: while the level is AMPLE, Q covers R_park and R_entry for each open survey and one
more. -/
def Obligations.ReserveStaysCovered : Prop :=
  ∀ s t : State, s.reserveInOrder → step s = .next t → t.reserveInOrder

/-- R32, R98, R122, R154, R155, R156, R178: every step keeps DOZE in order: the supply absent, the sequencer OFF, no grant,
the guard CALM and stopped and the link idle; the doze timer runs only while the doze condition holds, and it runs then, save
after a warm start that completed the condition itself, with the cycle delay 0 (log entry 22). -/
def Obligations.DozeStaysInOrder : Prop :=
  ∀ s t : State, s.dozeInOrder → step s = .next t → t.dozeInOrder
end

