-- ==== Sys2Proof/Laws/State.lean ====
section
/-! SUPPORT. What each update of one block leaves in each field of the state, and what reading one record of a table gives after
a record was written. -/

namespace Sys2Proof.Machine

variable (s : State)

@[simp] theorem State.onTable_table (f : SurveyTable → SurveyTable) : (s.onTable f).table = f s.table := rfl
@[simp] theorem State.onTable_grants (f : SurveyTable → SurveyTable) : (s.onTable f).grants = s.grants := rfl
@[simp] theorem State.onTable_guard (f : SurveyTable → SurveyTable) : (s.onTable f).guard = s.guard := rfl
@[simp] theorem State.onTable_seq (f : SurveyTable → SurveyTable) : (s.onTable f).seq = s.seq := rfl
@[simp] theorem State.onTable_gauge (f : SurveyTable → SurveyTable) : (s.onTable f).gauge = s.gauge := rfl
@[simp] theorem State.onTable_supply (f : SurveyTable → SurveyTable) : (s.onTable f).supply = s.supply := rfl
@[simp] theorem State.onTable_clock (f : SurveyTable → SurveyTable) : (s.onTable f).clock = s.clock := rfl
@[simp] theorem State.onTable_attention (f : SurveyTable → SurveyTable) : (s.onTable f).attention = s.attention := rfl
@[simp] theorem State.onTable_link (f : SurveyTable → SurveyTable) : (s.onTable f).link = s.link := rfl
@[simp] theorem State.onTable_pins (f : SurveyTable → SurveyTable) : (s.onTable f).pins = s.pins := rfl
@[simp] theorem State.onTable_freeCount (f : SurveyTable → SurveyTable) : (s.onTable f).freeCount = s.freeCount := rfl
@[simp] theorem State.onTable_pending (f : SurveyTable → SurveyTable) : (s.onTable f).pending = s.pending := rfl

@[simp] theorem State.onGrants_table (f : GrantTable → GrantTable) : (s.onGrants f).table = s.table := rfl
@[simp] theorem State.onGrants_grants (f : GrantTable → GrantTable) : (s.onGrants f).grants = f s.grants := rfl
@[simp] theorem State.onGrants_guard (f : GrantTable → GrantTable) : (s.onGrants f).guard = s.guard := rfl
@[simp] theorem State.onGrants_seq (f : GrantTable → GrantTable) : (s.onGrants f).seq = s.seq := rfl
@[simp] theorem State.onGrants_gauge (f : GrantTable → GrantTable) : (s.onGrants f).gauge = s.gauge := rfl
@[simp] theorem State.onGrants_supply (f : GrantTable → GrantTable) : (s.onGrants f).supply = s.supply := rfl
@[simp] theorem State.onGrants_clock (f : GrantTable → GrantTable) : (s.onGrants f).clock = s.clock := rfl
@[simp] theorem State.onGrants_attention (f : GrantTable → GrantTable) : (s.onGrants f).attention = s.attention := rfl
@[simp] theorem State.onGrants_link (f : GrantTable → GrantTable) : (s.onGrants f).link = s.link := rfl
@[simp] theorem State.onGrants_pins (f : GrantTable → GrantTable) : (s.onGrants f).pins = s.pins := rfl
@[simp] theorem State.onGrants_freeCount (f : GrantTable → GrantTable) : (s.onGrants f).freeCount = s.freeCount := rfl
@[simp] theorem State.onGrants_pending (f : GrantTable → GrantTable) : (s.onGrants f).pending = s.pending := rfl

@[simp] theorem State.onGuard_table (f : Guard → Guard) : (s.onGuard f).table = s.table := rfl
@[simp] theorem State.onGuard_grants (f : Guard → Guard) : (s.onGuard f).grants = s.grants := rfl
@[simp] theorem State.onGuard_guard (f : Guard → Guard) : (s.onGuard f).guard = f s.guard := rfl
@[simp] theorem State.onGuard_seq (f : Guard → Guard) : (s.onGuard f).seq = s.seq := rfl
@[simp] theorem State.onGuard_gauge (f : Guard → Guard) : (s.onGuard f).gauge = s.gauge := rfl
@[simp] theorem State.onGuard_supply (f : Guard → Guard) : (s.onGuard f).supply = s.supply := rfl
@[simp] theorem State.onGuard_clock (f : Guard → Guard) : (s.onGuard f).clock = s.clock := rfl
@[simp] theorem State.onGuard_attention (f : Guard → Guard) : (s.onGuard f).attention = s.attention := rfl
@[simp] theorem State.onGuard_link (f : Guard → Guard) : (s.onGuard f).link = s.link := rfl
@[simp] theorem State.onGuard_pins (f : Guard → Guard) : (s.onGuard f).pins = s.pins := rfl
@[simp] theorem State.onGuard_freeCount (f : Guard → Guard) : (s.onGuard f).freeCount = s.freeCount := rfl
@[simp] theorem State.onGuard_pending (f : Guard → Guard) : (s.onGuard f).pending = s.pending := rfl

@[simp] theorem State.onSeq_table (f : Sequencer → Sequencer) : (s.onSeq f).table = s.table := rfl
@[simp] theorem State.onSeq_grants (f : Sequencer → Sequencer) : (s.onSeq f).grants = s.grants := rfl
@[simp] theorem State.onSeq_guard (f : Sequencer → Sequencer) : (s.onSeq f).guard = s.guard := rfl
@[simp] theorem State.onSeq_seq (f : Sequencer → Sequencer) : (s.onSeq f).seq = f s.seq := rfl
@[simp] theorem State.onSeq_gauge (f : Sequencer → Sequencer) : (s.onSeq f).gauge = s.gauge := rfl
@[simp] theorem State.onSeq_supply (f : Sequencer → Sequencer) : (s.onSeq f).supply = s.supply := rfl
@[simp] theorem State.onSeq_clock (f : Sequencer → Sequencer) : (s.onSeq f).clock = s.clock := rfl
@[simp] theorem State.onSeq_attention (f : Sequencer → Sequencer) : (s.onSeq f).attention = s.attention := rfl
@[simp] theorem State.onSeq_link (f : Sequencer → Sequencer) : (s.onSeq f).link = s.link := rfl
@[simp] theorem State.onSeq_pins (f : Sequencer → Sequencer) : (s.onSeq f).pins = s.pins := rfl
@[simp] theorem State.onSeq_freeCount (f : Sequencer → Sequencer) : (s.onSeq f).freeCount = s.freeCount := rfl
@[simp] theorem State.onSeq_pending (f : Sequencer → Sequencer) : (s.onSeq f).pending = s.pending := rfl

@[simp] theorem State.onGauge_table (f : Gauge → Gauge) : (s.onGauge f).table = s.table := rfl
@[simp] theorem State.onGauge_grants (f : Gauge → Gauge) : (s.onGauge f).grants = s.grants := rfl
@[simp] theorem State.onGauge_guard (f : Gauge → Gauge) : (s.onGauge f).guard = s.guard := rfl
@[simp] theorem State.onGauge_seq (f : Gauge → Gauge) : (s.onGauge f).seq = s.seq := rfl
@[simp] theorem State.onGauge_gauge (f : Gauge → Gauge) : (s.onGauge f).gauge = f s.gauge := rfl
@[simp] theorem State.onGauge_supply (f : Gauge → Gauge) : (s.onGauge f).supply = s.supply := rfl
@[simp] theorem State.onGauge_clock (f : Gauge → Gauge) : (s.onGauge f).clock = s.clock := rfl
@[simp] theorem State.onGauge_attention (f : Gauge → Gauge) : (s.onGauge f).attention = s.attention := rfl
@[simp] theorem State.onGauge_link (f : Gauge → Gauge) : (s.onGauge f).link = s.link := rfl
@[simp] theorem State.onGauge_pins (f : Gauge → Gauge) : (s.onGauge f).pins = s.pins := rfl
@[simp] theorem State.onGauge_freeCount (f : Gauge → Gauge) : (s.onGauge f).freeCount = s.freeCount := rfl
@[simp] theorem State.onGauge_pending (f : Gauge → Gauge) : (s.onGauge f).pending = s.pending := rfl

@[simp] theorem State.onSupply_table (f : Supply → Supply) : (s.onSupply f).table = s.table := rfl
@[simp] theorem State.onSupply_grants (f : Supply → Supply) : (s.onSupply f).grants = s.grants := rfl
@[simp] theorem State.onSupply_guard (f : Supply → Supply) : (s.onSupply f).guard = s.guard := rfl
@[simp] theorem State.onSupply_seq (f : Supply → Supply) : (s.onSupply f).seq = s.seq := rfl
@[simp] theorem State.onSupply_gauge (f : Supply → Supply) : (s.onSupply f).gauge = s.gauge := rfl
@[simp] theorem State.onSupply_supply (f : Supply → Supply) : (s.onSupply f).supply = f s.supply := rfl
@[simp] theorem State.onSupply_clock (f : Supply → Supply) : (s.onSupply f).clock = s.clock := rfl
@[simp] theorem State.onSupply_attention (f : Supply → Supply) : (s.onSupply f).attention = s.attention := rfl
@[simp] theorem State.onSupply_link (f : Supply → Supply) : (s.onSupply f).link = s.link := rfl
@[simp] theorem State.onSupply_pins (f : Supply → Supply) : (s.onSupply f).pins = s.pins := rfl
@[simp] theorem State.onSupply_freeCount (f : Supply → Supply) : (s.onSupply f).freeCount = s.freeCount := rfl
@[simp] theorem State.onSupply_pending (f : Supply → Supply) : (s.onSupply f).pending = s.pending := rfl

@[simp] theorem State.onClock_table (f : Clock → Clock) : (s.onClock f).table = s.table := rfl
@[simp] theorem State.onClock_grants (f : Clock → Clock) : (s.onClock f).grants = s.grants := rfl
@[simp] theorem State.onClock_guard (f : Clock → Clock) : (s.onClock f).guard = s.guard := rfl
@[simp] theorem State.onClock_seq (f : Clock → Clock) : (s.onClock f).seq = s.seq := rfl
@[simp] theorem State.onClock_gauge (f : Clock → Clock) : (s.onClock f).gauge = s.gauge := rfl
@[simp] theorem State.onClock_supply (f : Clock → Clock) : (s.onClock f).supply = s.supply := rfl
@[simp] theorem State.onClock_clock (f : Clock → Clock) : (s.onClock f).clock = f s.clock := rfl
@[simp] theorem State.onClock_attention (f : Clock → Clock) : (s.onClock f).attention = s.attention := rfl
@[simp] theorem State.onClock_link (f : Clock → Clock) : (s.onClock f).link = s.link := rfl
@[simp] theorem State.onClock_pins (f : Clock → Clock) : (s.onClock f).pins = s.pins := rfl
@[simp] theorem State.onClock_freeCount (f : Clock → Clock) : (s.onClock f).freeCount = s.freeCount := rfl
@[simp] theorem State.onClock_pending (f : Clock → Clock) : (s.onClock f).pending = s.pending := rfl

@[simp] theorem State.onAttention_table (f : Attention → Attention) : (s.onAttention f).table = s.table := rfl
@[simp] theorem State.onAttention_grants (f : Attention → Attention) : (s.onAttention f).grants = s.grants := rfl
@[simp] theorem State.onAttention_guard (f : Attention → Attention) : (s.onAttention f).guard = s.guard := rfl
@[simp] theorem State.onAttention_seq (f : Attention → Attention) : (s.onAttention f).seq = s.seq := rfl
@[simp] theorem State.onAttention_gauge (f : Attention → Attention) : (s.onAttention f).gauge = s.gauge := rfl
@[simp] theorem State.onAttention_supply (f : Attention → Attention) : (s.onAttention f).supply = s.supply := rfl
@[simp] theorem State.onAttention_clock (f : Attention → Attention) : (s.onAttention f).clock = s.clock := rfl
@[simp] theorem State.onAttention_attention (f : Attention → Attention) : (s.onAttention f).attention = f s.attention := rfl
@[simp] theorem State.onAttention_link (f : Attention → Attention) : (s.onAttention f).link = s.link := rfl
@[simp] theorem State.onAttention_pins (f : Attention → Attention) : (s.onAttention f).pins = s.pins := rfl
@[simp] theorem State.onAttention_freeCount (f : Attention → Attention) : (s.onAttention f).freeCount = s.freeCount := rfl
@[simp] theorem State.onAttention_pending (f : Attention → Attention) : (s.onAttention f).pending = s.pending := rfl

@[simp] theorem State.onLink_table (f : Link → Link) : (s.onLink f).table = s.table := rfl
@[simp] theorem State.onLink_grants (f : Link → Link) : (s.onLink f).grants = s.grants := rfl
@[simp] theorem State.onLink_guard (f : Link → Link) : (s.onLink f).guard = s.guard := rfl
@[simp] theorem State.onLink_seq (f : Link → Link) : (s.onLink f).seq = s.seq := rfl
@[simp] theorem State.onLink_gauge (f : Link → Link) : (s.onLink f).gauge = s.gauge := rfl
@[simp] theorem State.onLink_supply (f : Link → Link) : (s.onLink f).supply = s.supply := rfl
@[simp] theorem State.onLink_clock (f : Link → Link) : (s.onLink f).clock = s.clock := rfl
@[simp] theorem State.onLink_attention (f : Link → Link) : (s.onLink f).attention = s.attention := rfl
@[simp] theorem State.onLink_link (f : Link → Link) : (s.onLink f).link = f s.link := rfl
@[simp] theorem State.onLink_pins (f : Link → Link) : (s.onLink f).pins = s.pins := rfl
@[simp] theorem State.onLink_freeCount (f : Link → Link) : (s.onLink f).freeCount = s.freeCount := rfl
@[simp] theorem State.onLink_pending (f : Link → Link) : (s.onLink f).pending = s.pending := rfl

@[simp] theorem State.onPins_table (f : Pins → Pins) : (s.onPins f).table = s.table := rfl
@[simp] theorem State.onPins_grants (f : Pins → Pins) : (s.onPins f).grants = s.grants := rfl
@[simp] theorem State.onPins_guard (f : Pins → Pins) : (s.onPins f).guard = s.guard := rfl
@[simp] theorem State.onPins_seq (f : Pins → Pins) : (s.onPins f).seq = s.seq := rfl
@[simp] theorem State.onPins_gauge (f : Pins → Pins) : (s.onPins f).gauge = s.gauge := rfl
@[simp] theorem State.onPins_supply (f : Pins → Pins) : (s.onPins f).supply = s.supply := rfl
@[simp] theorem State.onPins_clock (f : Pins → Pins) : (s.onPins f).clock = s.clock := rfl
@[simp] theorem State.onPins_attention (f : Pins → Pins) : (s.onPins f).attention = s.attention := rfl
@[simp] theorem State.onPins_link (f : Pins → Pins) : (s.onPins f).link = s.link := rfl
@[simp] theorem State.onPins_pins (f : Pins → Pins) : (s.onPins f).pins = f s.pins := rfl
@[simp] theorem State.onPins_freeCount (f : Pins → Pins) : (s.onPins f).freeCount = s.freeCount := rfl
@[simp] theorem State.onPins_pending (f : Pins → Pins) : (s.onPins f).pending = s.pending := rfl

/-! ## Reading a record -/

theorem State.entry_eq (i : Fin 64) : s.entry i = s.table.entries[i] := rfl

theorem State.entry_congr {s t : State} (h : t.table = s.table) (i : Fin 64) : t.entry i = s.entry i := by
  simp only [State.entry, h]

@[simp] theorem State.entry_setEntry_same (i : Fin 64) (e : Entry) : (s.setEntry i e).entry i = e := by
  simp [State.setEntry, State.entry]

theorem State.entry_setEntry_ne {i j : Fin 64} (h : j ≠ i) (e : Entry) : (s.setEntry i e).entry j = s.entry j := by
  have : i.val ≠ j.val := fun h' => h (Fin.ext h'.symm)
  simp [State.setEntry, State.entry, this]

@[simp] theorem State.entry_modifyEntry_same (i : Fin 64) (f : Entry → Entry) :
    (s.modifyEntry i f).entry i = f (s.entry i) := by
  simp [State.modifyEntry]

theorem State.entry_modifyEntry_ne {i j : Fin 64} (h : j ≠ i) (f : Entry → Entry) :
    (s.modifyEntry i f).entry j = s.entry j :=
  s.entry_setEntry_ne h _

@[simp] theorem State.entry_mapEntries (f : Fin 64 → Entry → Entry) (i : Fin 64) :
    (s.mapEntries f).entry i = f i (s.entry i) := by
  simp [State.mapEntries, State.entry]

theorem State.grant_setGrant_same (k : Fin 8) (g : Option Grant) : (s.setGrant k g).grants.slots[k] = g := by
  simp [State.setGrant]

theorem State.grant_setGrant_ne {k l : Fin 8} (h : l ≠ k) (g : Option Grant) :
    (s.setGrant k g).grants.slots[l] = s.grants.slots[l] := by
  have : k.val ≠ l.val := fun h' => h (Fin.ext h'.symm)
  simp [State.setGrant, this]

/-- Two states agree on a record of every slot exactly when they hold the same records. -/
theorem State.entries_ext {s t : State} (h : ∀ i, t.entry i = s.entry i) : t.table.entries = s.table.entries := by
  apply Vector.ext
  intro i hi
  exact h ⟨i, hi⟩

end Sys2Proof.Machine
end

