-- ==== Sys2Proof/Laws/Frames.lean ====
section
/-! SUPPORT. The frames of the shared operations: for each, the fields of the state it leaves as they were. -/

namespace Sys2Proof.Machine

variable (s : State)

@[simp] theorem State.raise_table (c : Cause) : (s.raise c).table = s.table := by
  simp [State.raise]
@[simp] theorem State.raise_grants (c : Cause) : (s.raise c).grants = s.grants := by
  simp [State.raise]
@[simp] theorem State.raise_guard (c : Cause) : (s.raise c).guard = s.guard := by
  simp [State.raise]
@[simp] theorem State.raise_seq (c : Cause) : (s.raise c).seq = s.seq := by
  simp [State.raise]
@[simp] theorem State.raise_gauge (c : Cause) : (s.raise c).gauge = s.gauge := by
  simp [State.raise]
@[simp] theorem State.raise_supply (c : Cause) : (s.raise c).supply = s.supply := by
  simp [State.raise]
@[simp] theorem State.raise_clock (c : Cause) : (s.raise c).clock = s.clock := by
  simp [State.raise]
@[simp] theorem State.raise_link (c : Cause) : (s.raise c).link = s.link := by
  simp [State.raise]
@[simp] theorem State.raise_pins (c : Cause) : (s.raise c).pins = s.pins := by
  simp [State.raise]
@[simp] theorem State.raise_freeCount (c : Cause) : (s.raise c).freeCount = s.freeCount := by
  simp [State.raise]
@[simp] theorem State.raise_pending (c : Cause) : (s.raise c).pending = s.pending := by
  simp [State.raise]

@[simp] theorem State.powerUpCheck_table : (s.powerUpCheck).table = s.table := by
  simp only [State.powerUpCheck]; (repeat' split) <;> simp
@[simp] theorem State.powerUpCheck_grants : (s.powerUpCheck).grants = s.grants := by
  simp only [State.powerUpCheck]; (repeat' split) <;> simp
@[simp] theorem State.powerUpCheck_guard : (s.powerUpCheck).guard = s.guard := by
  simp only [State.powerUpCheck]; (repeat' split) <;> simp
@[simp] theorem State.powerUpCheck_gauge : (s.powerUpCheck).gauge = s.gauge := by
  simp only [State.powerUpCheck]; (repeat' split) <;> simp
@[simp] theorem State.powerUpCheck_supply : (s.powerUpCheck).supply = s.supply := by
  simp only [State.powerUpCheck]; (repeat' split) <;> simp
@[simp] theorem State.powerUpCheck_clock : (s.powerUpCheck).clock = s.clock := by
  simp only [State.powerUpCheck]; (repeat' split) <;> simp
@[simp] theorem State.powerUpCheck_attention : (s.powerUpCheck).attention = s.attention := by
  simp only [State.powerUpCheck]; (repeat' split) <;> simp
@[simp] theorem State.powerUpCheck_link : (s.powerUpCheck).link = s.link := by
  simp only [State.powerUpCheck]; (repeat' split) <;> simp
@[simp] theorem State.powerUpCheck_pins : (s.powerUpCheck).pins = s.pins := by
  simp only [State.powerUpCheck]; (repeat' split) <;> simp
@[simp] theorem State.powerUpCheck_freeCount : (s.powerUpCheck).freeCount = s.freeCount := by
  simp only [State.powerUpCheck]; (repeat' split) <;> simp
@[simp] theorem State.powerUpCheck_pending : (s.powerUpCheck).pending = s.pending := by
  simp only [State.powerUpCheck]; (repeat' split) <;> simp

@[simp] theorem State.wayDown_table : (s.wayDown).table = s.table := by
  simp only [State.wayDown]; (repeat' split) <;> simp
@[simp] theorem State.wayDown_grants : (s.wayDown).grants = s.grants := by
  simp only [State.wayDown]; (repeat' split) <;> simp
@[simp] theorem State.wayDown_guard : (s.wayDown).guard = s.guard := by
  simp only [State.wayDown]; (repeat' split) <;> simp
@[simp] theorem State.wayDown_gauge : (s.wayDown).gauge = s.gauge := by
  simp only [State.wayDown]; (repeat' split) <;> simp
@[simp] theorem State.wayDown_supply : (s.wayDown).supply = s.supply := by
  simp only [State.wayDown]; (repeat' split) <;> simp
@[simp] theorem State.wayDown_clock : (s.wayDown).clock = s.clock := by
  simp only [State.wayDown]; (repeat' split) <;> simp
@[simp] theorem State.wayDown_attention : (s.wayDown).attention = s.attention := by
  simp only [State.wayDown]; (repeat' split) <;> simp
@[simp] theorem State.wayDown_link : (s.wayDown).link = s.link := by
  simp only [State.wayDown]; (repeat' split) <;> simp
@[simp] theorem State.wayDown_pins : (s.wayDown).pins = s.pins := by
  simp only [State.wayDown]; (repeat' split) <;> simp
@[simp] theorem State.wayDown_freeCount : (s.wayDown).freeCount = s.freeCount := by
  simp only [State.wayDown]; (repeat' split) <;> simp
@[simp] theorem State.wayDown_pending : (s.wayDown).pending = s.pending := by
  simp only [State.wayDown]; (repeat' split) <;> simp

@[simp] theorem State.readyReached_table : (s.readyReached).table = s.table := by
  simp only [State.readyReached]; (repeat' split) <;> simp
@[simp] theorem State.readyReached_grants : (s.readyReached).grants = s.grants := by
  simp only [State.readyReached]; (repeat' split) <;> simp
@[simp] theorem State.readyReached_guard : (s.readyReached).guard = s.guard := by
  simp only [State.readyReached]; (repeat' split) <;> simp
@[simp] theorem State.readyReached_gauge : (s.readyReached).gauge = s.gauge := by
  simp only [State.readyReached]; (repeat' split) <;> simp
@[simp] theorem State.readyReached_supply : (s.readyReached).supply = s.supply := by
  simp only [State.readyReached]; (repeat' split) <;> simp
@[simp] theorem State.readyReached_clock : (s.readyReached).clock = s.clock := by
  simp only [State.readyReached]; (repeat' split) <;> simp
@[simp] theorem State.readyReached_link : (s.readyReached).link = s.link := by
  simp only [State.readyReached]; (repeat' split) <;> simp
@[simp] theorem State.readyReached_pins : (s.readyReached).pins = s.pins := by
  simp only [State.readyReached]; (repeat' split) <;> simp
@[simp] theorem State.readyReached_freeCount : (s.readyReached).freeCount = s.freeCount := by
  simp only [State.readyReached]; (repeat' split) <;> simp
@[simp] theorem State.readyReached_pending : (s.readyReached).pending = s.pending := by
  simp only [State.readyReached]; (repeat' split) <;> simp

@[simp] theorem State.offReached_table : (s.offReached).table = s.table := by
  simp [State.offReached]
@[simp] theorem State.offReached_grants : (s.offReached).grants = s.grants := by
  simp [State.offReached]
@[simp] theorem State.offReached_guard : (s.offReached).guard = s.guard := by
  simp [State.offReached]
@[simp] theorem State.offReached_gauge : (s.offReached).gauge = s.gauge := by
  simp [State.offReached]
@[simp] theorem State.offReached_supply : (s.offReached).supply = s.supply := by
  simp [State.offReached]
@[simp] theorem State.offReached_clock : (s.offReached).clock = s.clock := by
  simp [State.offReached]
@[simp] theorem State.offReached_link : (s.offReached).link = s.link := by
  simp [State.offReached]
@[simp] theorem State.offReached_pins : (s.offReached).pins = s.pins := by
  simp [State.offReached]
@[simp] theorem State.offReached_freeCount : (s.offReached).freeCount = s.freeCount := by
  simp [State.offReached]
@[simp] theorem State.offReached_pending : (s.offReached).pending = s.pending := by
  simp [State.offReached]

@[simp] theorem State.enterCycleWait_table : (s.enterCycleWait).table = s.table := by
  simp only [State.enterCycleWait]; (repeat' split) <;> simp
@[simp] theorem State.enterCycleWait_grants : (s.enterCycleWait).grants = s.grants := by
  simp only [State.enterCycleWait]; (repeat' split) <;> simp
@[simp] theorem State.enterCycleWait_guard : (s.enterCycleWait).guard = s.guard := by
  simp only [State.enterCycleWait]; (repeat' split) <;> simp
@[simp] theorem State.enterCycleWait_gauge : (s.enterCycleWait).gauge = s.gauge := by
  simp only [State.enterCycleWait]; (repeat' split) <;> simp
@[simp] theorem State.enterCycleWait_supply : (s.enterCycleWait).supply = s.supply := by
  simp only [State.enterCycleWait]; (repeat' split) <;> simp
@[simp] theorem State.enterCycleWait_clock : (s.enterCycleWait).clock = s.clock := by
  simp only [State.enterCycleWait]; (repeat' split) <;> simp
@[simp] theorem State.enterCycleWait_link : (s.enterCycleWait).link = s.link := by
  simp only [State.enterCycleWait]; (repeat' split) <;> simp
@[simp] theorem State.enterCycleWait_pins : (s.enterCycleWait).pins = s.pins := by
  simp only [State.enterCycleWait]; (repeat' split) <;> simp
@[simp] theorem State.enterCycleWait_freeCount : (s.enterCycleWait).freeCount = s.freeCount := by
  simp only [State.enterCycleWait]; (repeat' split) <;> simp
@[simp] theorem State.enterCycleWait_pending : (s.enterCycleWait).pending = s.pending := by
  simp only [State.enterCycleWait]; (repeat' split) <;> simp

@[simp] theorem State.emergencyUnload_table : (s.emergencyUnload).table = s.table := by
  simp only [State.emergencyUnload]; (repeat' split) <;> simp
@[simp] theorem State.emergencyUnload_grants : (s.emergencyUnload).grants = s.grants := by
  simp only [State.emergencyUnload]; (repeat' split) <;> simp
@[simp] theorem State.emergencyUnload_guard : (s.emergencyUnload).guard = s.guard := by
  simp only [State.emergencyUnload]; (repeat' split) <;> simp
@[simp] theorem State.emergencyUnload_gauge : (s.emergencyUnload).gauge = s.gauge := by
  simp only [State.emergencyUnload]; (repeat' split) <;> simp
@[simp] theorem State.emergencyUnload_supply : (s.emergencyUnload).supply = s.supply := by
  simp only [State.emergencyUnload]; (repeat' split) <;> simp
@[simp] theorem State.emergencyUnload_clock : (s.emergencyUnload).clock = s.clock := by
  simp only [State.emergencyUnload]; (repeat' split) <;> simp
@[simp] theorem State.emergencyUnload_attention : (s.emergencyUnload).attention = s.attention := by
  simp only [State.emergencyUnload]; (repeat' split) <;> simp
@[simp] theorem State.emergencyUnload_link : (s.emergencyUnload).link = s.link := by
  simp only [State.emergencyUnload]; (repeat' split) <;> simp
@[simp] theorem State.emergencyUnload_pins : (s.emergencyUnload).pins = s.pins := by
  simp only [State.emergencyUnload]; (repeat' split) <;> simp
@[simp] theorem State.emergencyUnload_freeCount : (s.emergencyUnload).freeCount = s.freeCount := by
  simp only [State.emergencyUnload]; (repeat' split) <;> simp
@[simp] theorem State.emergencyUnload_pending : (s.emergencyUnload).pending = s.pending := by
  simp only [State.emergencyUnload]; (repeat' split) <;> simp

@[simp] theorem State.emptySignal_table : (s.emptySignal).table = s.table := by
  simp only [State.emptySignal]; (repeat' split) <;> simp
@[simp] theorem State.emptySignal_grants : (s.emptySignal).grants = s.grants := by
  simp only [State.emptySignal]; (repeat' split) <;> simp
@[simp] theorem State.emptySignal_guard : (s.emptySignal).guard = s.guard := by
  simp only [State.emptySignal]; (repeat' split) <;> simp
@[simp] theorem State.emptySignal_gauge : (s.emptySignal).gauge = s.gauge := by
  simp only [State.emptySignal]; (repeat' split) <;> simp
@[simp] theorem State.emptySignal_supply : (s.emptySignal).supply = s.supply := by
  simp only [State.emptySignal]; (repeat' split) <;> simp
@[simp] theorem State.emptySignal_clock : (s.emptySignal).clock = s.clock := by
  simp only [State.emptySignal]; (repeat' split) <;> simp
@[simp] theorem State.emptySignal_attention : (s.emptySignal).attention = s.attention := by
  simp only [State.emptySignal]; (repeat' split) <;> simp
@[simp] theorem State.emptySignal_link : (s.emptySignal).link = s.link := by
  simp only [State.emptySignal]; (repeat' split) <;> simp
@[simp] theorem State.emptySignal_pins : (s.emptySignal).pins = s.pins := by
  simp only [State.emptySignal]; (repeat' split) <;> simp
@[simp] theorem State.emptySignal_freeCount : (s.emptySignal).freeCount = s.freeCount := by
  simp only [State.emptySignal]; (repeat' split) <;> simp
@[simp] theorem State.emptySignal_pending : (s.emptySignal).pending = s.pending := by
  simp only [State.emptySignal]; (repeat' split) <;> simp

@[simp] theorem State.guardEnters_table (g : GuardState) : (s.guardEnters g).table = s.table := by
  simp only [State.guardEnters]; (repeat' split) <;> simp
@[simp] theorem State.guardEnters_grants (g : GuardState) : (s.guardEnters g).grants = s.grants := by
  simp only [State.guardEnters]; (repeat' split) <;> simp
@[simp] theorem State.guardEnters_gauge (g : GuardState) : (s.guardEnters g).gauge = s.gauge := by
  simp only [State.guardEnters]; (repeat' split) <;> simp
@[simp] theorem State.guardEnters_supply (g : GuardState) : (s.guardEnters g).supply = s.supply := by
  simp only [State.guardEnters]; (repeat' split) <;> simp
@[simp] theorem State.guardEnters_clock (g : GuardState) : (s.guardEnters g).clock = s.clock := by
  simp only [State.guardEnters]; (repeat' split) <;> simp
@[simp] theorem State.guardEnters_attention (g : GuardState) : (s.guardEnters g).attention = s.attention := by
  simp only [State.guardEnters]; (repeat' split) <;> simp
@[simp] theorem State.guardEnters_link (g : GuardState) : (s.guardEnters g).link = s.link := by
  simp only [State.guardEnters]; (repeat' split) <;> simp
@[simp] theorem State.guardEnters_pins (g : GuardState) : (s.guardEnters g).pins = s.pins := by
  simp only [State.guardEnters]; (repeat' split) <;> simp
@[simp] theorem State.guardEnters_freeCount (g : GuardState) : (s.guardEnters g).freeCount = s.freeCount := by
  simp only [State.guardEnters]; (repeat' split) <;> simp
@[simp] theorem State.guardEnters_pending (g : GuardState) : (s.guardEnters g).pending = s.pending := by
  simp only [State.guardEnters]; (repeat' split) <;> simp

@[simp] theorem State.setEntry_grants (i : Fin 64) (e : Entry) : (s.setEntry i e).grants = s.grants := by
  simp [State.setEntry]
@[simp] theorem State.setEntry_guard (i : Fin 64) (e : Entry) : (s.setEntry i e).guard = s.guard := by
  simp [State.setEntry]
@[simp] theorem State.setEntry_seq (i : Fin 64) (e : Entry) : (s.setEntry i e).seq = s.seq := by
  simp [State.setEntry]
@[simp] theorem State.setEntry_gauge (i : Fin 64) (e : Entry) : (s.setEntry i e).gauge = s.gauge := by
  simp [State.setEntry]
@[simp] theorem State.setEntry_supply (i : Fin 64) (e : Entry) : (s.setEntry i e).supply = s.supply := by
  simp [State.setEntry]
@[simp] theorem State.setEntry_clock (i : Fin 64) (e : Entry) : (s.setEntry i e).clock = s.clock := by
  simp [State.setEntry]
@[simp] theorem State.setEntry_attention (i : Fin 64) (e : Entry) : (s.setEntry i e).attention = s.attention := by
  simp [State.setEntry]
@[simp] theorem State.setEntry_link (i : Fin 64) (e : Entry) : (s.setEntry i e).link = s.link := by
  simp [State.setEntry]
@[simp] theorem State.setEntry_pins (i : Fin 64) (e : Entry) : (s.setEntry i e).pins = s.pins := by
  simp [State.setEntry]
@[simp] theorem State.setEntry_freeCount (i : Fin 64) (e : Entry) : (s.setEntry i e).freeCount = s.freeCount := by
  simp [State.setEntry]
@[simp] theorem State.setEntry_pending (i : Fin 64) (e : Entry) : (s.setEntry i e).pending = s.pending := by
  simp [State.setEntry]

@[simp] theorem State.modifyEntry_grants (i : Fin 64) (f : Entry → Entry) : (s.modifyEntry i f).grants = s.grants := by
  simp [State.modifyEntry]
@[simp] theorem State.modifyEntry_guard (i : Fin 64) (f : Entry → Entry) : (s.modifyEntry i f).guard = s.guard := by
  simp [State.modifyEntry]
@[simp] theorem State.modifyEntry_seq (i : Fin 64) (f : Entry → Entry) : (s.modifyEntry i f).seq = s.seq := by
  simp [State.modifyEntry]
@[simp] theorem State.modifyEntry_gauge (i : Fin 64) (f : Entry → Entry) : (s.modifyEntry i f).gauge = s.gauge := by
  simp [State.modifyEntry]
@[simp] theorem State.modifyEntry_supply (i : Fin 64) (f : Entry → Entry) : (s.modifyEntry i f).supply = s.supply := by
  simp [State.modifyEntry]
@[simp] theorem State.modifyEntry_clock (i : Fin 64) (f : Entry → Entry) : (s.modifyEntry i f).clock = s.clock := by
  simp [State.modifyEntry]
@[simp] theorem State.modifyEntry_attention (i : Fin 64) (f : Entry → Entry) : (s.modifyEntry i f).attention = s.attention := by
  simp [State.modifyEntry]
@[simp] theorem State.modifyEntry_link (i : Fin 64) (f : Entry → Entry) : (s.modifyEntry i f).link = s.link := by
  simp [State.modifyEntry]
@[simp] theorem State.modifyEntry_pins (i : Fin 64) (f : Entry → Entry) : (s.modifyEntry i f).pins = s.pins := by
  simp [State.modifyEntry]
@[simp] theorem State.modifyEntry_freeCount (i : Fin 64) (f : Entry → Entry) : (s.modifyEntry i f).freeCount = s.freeCount := by
  simp [State.modifyEntry]
@[simp] theorem State.modifyEntry_pending (i : Fin 64) (f : Entry → Entry) : (s.modifyEntry i f).pending = s.pending := by
  simp [State.modifyEntry]

@[simp] theorem State.mapEntries_grants (f : Fin 64 → Entry → Entry) : (s.mapEntries f).grants = s.grants := by
  simp [State.mapEntries]
@[simp] theorem State.mapEntries_guard (f : Fin 64 → Entry → Entry) : (s.mapEntries f).guard = s.guard := by
  simp [State.mapEntries]
@[simp] theorem State.mapEntries_seq (f : Fin 64 → Entry → Entry) : (s.mapEntries f).seq = s.seq := by
  simp [State.mapEntries]
@[simp] theorem State.mapEntries_gauge (f : Fin 64 → Entry → Entry) : (s.mapEntries f).gauge = s.gauge := by
  simp [State.mapEntries]
@[simp] theorem State.mapEntries_supply (f : Fin 64 → Entry → Entry) : (s.mapEntries f).supply = s.supply := by
  simp [State.mapEntries]
@[simp] theorem State.mapEntries_clock (f : Fin 64 → Entry → Entry) : (s.mapEntries f).clock = s.clock := by
  simp [State.mapEntries]
@[simp] theorem State.mapEntries_attention (f : Fin 64 → Entry → Entry) : (s.mapEntries f).attention = s.attention := by
  simp [State.mapEntries]
@[simp] theorem State.mapEntries_link (f : Fin 64 → Entry → Entry) : (s.mapEntries f).link = s.link := by
  simp [State.mapEntries]
@[simp] theorem State.mapEntries_pins (f : Fin 64 → Entry → Entry) : (s.mapEntries f).pins = s.pins := by
  simp [State.mapEntries]
@[simp] theorem State.mapEntries_freeCount (f : Fin 64 → Entry → Entry) : (s.mapEntries f).freeCount = s.freeCount := by
  simp [State.mapEntries]
@[simp] theorem State.mapEntries_pending (f : Fin 64 → Entry → Entry) : (s.mapEntries f).pending = s.pending := by
  simp [State.mapEntries]

@[simp] theorem State.clearEntry_grants (i : Fin 64) : (s.clearEntry i).grants = s.grants := by
  simp [State.clearEntry]
@[simp] theorem State.clearEntry_guard (i : Fin 64) : (s.clearEntry i).guard = s.guard := by
  simp [State.clearEntry]
@[simp] theorem State.clearEntry_seq (i : Fin 64) : (s.clearEntry i).seq = s.seq := by
  simp [State.clearEntry]
@[simp] theorem State.clearEntry_gauge (i : Fin 64) : (s.clearEntry i).gauge = s.gauge := by
  simp [State.clearEntry]
@[simp] theorem State.clearEntry_supply (i : Fin 64) : (s.clearEntry i).supply = s.supply := by
  simp [State.clearEntry]
@[simp] theorem State.clearEntry_clock (i : Fin 64) : (s.clearEntry i).clock = s.clock := by
  simp [State.clearEntry]
@[simp] theorem State.clearEntry_attention (i : Fin 64) : (s.clearEntry i).attention = s.attention := by
  simp [State.clearEntry]
@[simp] theorem State.clearEntry_link (i : Fin 64) : (s.clearEntry i).link = s.link := by
  simp [State.clearEntry]
@[simp] theorem State.clearEntry_pins (i : Fin 64) : (s.clearEntry i).pins = s.pins := by
  simp [State.clearEntry]
@[simp] theorem State.clearEntry_freeCount (i : Fin 64) : (s.clearEntry i).freeCount = s.freeCount := by
  simp [State.clearEntry]
@[simp] theorem State.clearEntry_pending (i : Fin 64) : (s.clearEntry i).pending = s.pending := by
  simp [State.clearEntry]

@[simp] theorem State.joltMarking_grants : (s.joltMarking).grants = s.grants := by
  simp [State.joltMarking]
@[simp] theorem State.joltMarking_guard : (s.joltMarking).guard = s.guard := by
  simp [State.joltMarking]
@[simp] theorem State.joltMarking_seq : (s.joltMarking).seq = s.seq := by
  simp [State.joltMarking]
@[simp] theorem State.joltMarking_gauge : (s.joltMarking).gauge = s.gauge := by
  simp [State.joltMarking]
@[simp] theorem State.joltMarking_supply : (s.joltMarking).supply = s.supply := by
  simp [State.joltMarking]
@[simp] theorem State.joltMarking_clock : (s.joltMarking).clock = s.clock := by
  simp [State.joltMarking]
@[simp] theorem State.joltMarking_attention : (s.joltMarking).attention = s.attention := by
  simp [State.joltMarking]
@[simp] theorem State.joltMarking_link : (s.joltMarking).link = s.link := by
  simp [State.joltMarking]
@[simp] theorem State.joltMarking_pins : (s.joltMarking).pins = s.pins := by
  simp [State.joltMarking]
@[simp] theorem State.joltMarking_freeCount : (s.joltMarking).freeCount = s.freeCount := by
  simp [State.joltMarking]
@[simp] theorem State.joltMarking_pending : (s.joltMarking).pending = s.pending := by
  simp [State.joltMarking]

@[simp] theorem State.enterDoze_table : (s.enterDoze).table = s.table := by
  simp [State.enterDoze]
@[simp] theorem State.enterDoze_grants : (s.enterDoze).grants = s.grants := by
  simp [State.enterDoze]
@[simp] theorem State.enterDoze_seq : (s.enterDoze).seq = s.seq := by
  simp [State.enterDoze]
@[simp] theorem State.enterDoze_gauge : (s.enterDoze).gauge = s.gauge := by
  simp [State.enterDoze]
@[simp] theorem State.enterDoze_clock : (s.enterDoze).clock = s.clock := by
  simp [State.enterDoze]
@[simp] theorem State.enterDoze_link : (s.enterDoze).link = s.link := by
  simp [State.enterDoze]
@[simp] theorem State.enterDoze_pins : (s.enterDoze).pins = s.pins := by
  simp [State.enterDoze]
@[simp] theorem State.enterDoze_freeCount : (s.enterDoze).freeCount = s.freeCount := by
  simp [State.enterDoze]
@[simp] theorem State.enterDoze_pending : (s.enterDoze).pending = s.pending := by
  simp [State.enterDoze]

@[simp] theorem State.leaveDoze_table : (s.leaveDoze).table = s.table := by
  simp [State.leaveDoze]
@[simp] theorem State.leaveDoze_grants : (s.leaveDoze).grants = s.grants := by
  simp [State.leaveDoze]
@[simp] theorem State.leaveDoze_seq : (s.leaveDoze).seq = s.seq := by
  simp [State.leaveDoze]
@[simp] theorem State.leaveDoze_gauge : (s.leaveDoze).gauge = s.gauge := by
  simp [State.leaveDoze]
@[simp] theorem State.leaveDoze_clock : (s.leaveDoze).clock = s.clock := by
  simp [State.leaveDoze]
@[simp] theorem State.leaveDoze_attention : (s.leaveDoze).attention = s.attention := by
  simp [State.leaveDoze]
@[simp] theorem State.leaveDoze_link : (s.leaveDoze).link = s.link := by
  simp [State.leaveDoze]
@[simp] theorem State.leaveDoze_pins : (s.leaveDoze).pins = s.pins := by
  simp [State.leaveDoze]
@[simp] theorem State.leaveDoze_freeCount : (s.leaveDoze).freeCount = s.freeCount := by
  simp [State.leaveDoze]
@[simp] theorem State.leaveDoze_pending : (s.leaveDoze).pending = s.pending := by
  simp [State.leaveDoze]

@[simp] theorem State.dozeFollows_table (b : Bool) : (s.dozeFollows b).table = s.table := by
  simp only [State.dozeFollows]; (repeat' split) <;> simp
@[simp] theorem State.dozeFollows_grants (b : Bool) : (s.dozeFollows b).grants = s.grants := by
  simp only [State.dozeFollows]; (repeat' split) <;> simp
@[simp] theorem State.dozeFollows_guard (b : Bool) : (s.dozeFollows b).guard = s.guard := by
  simp only [State.dozeFollows]; (repeat' split) <;> simp
@[simp] theorem State.dozeFollows_seq (b : Bool) : (s.dozeFollows b).seq = s.seq := by
  simp only [State.dozeFollows]; (repeat' split) <;> simp
@[simp] theorem State.dozeFollows_gauge (b : Bool) : (s.dozeFollows b).gauge = s.gauge := by
  simp only [State.dozeFollows]; (repeat' split) <;> simp
@[simp] theorem State.dozeFollows_clock (b : Bool) : (s.dozeFollows b).clock = s.clock := by
  simp only [State.dozeFollows]; (repeat' split) <;> simp
@[simp] theorem State.dozeFollows_attention (b : Bool) : (s.dozeFollows b).attention = s.attention := by
  simp only [State.dozeFollows]; (repeat' split) <;> simp
@[simp] theorem State.dozeFollows_link (b : Bool) : (s.dozeFollows b).link = s.link := by
  simp only [State.dozeFollows]; (repeat' split) <;> simp
@[simp] theorem State.dozeFollows_pins (b : Bool) : (s.dozeFollows b).pins = s.pins := by
  simp only [State.dozeFollows]; (repeat' split) <;> simp
@[simp] theorem State.dozeFollows_freeCount (b : Bool) : (s.dozeFollows b).freeCount = s.freeCount := by
  simp only [State.dozeFollows]; (repeat' split) <;> simp
@[simp] theorem State.dozeFollows_pending (b : Bool) : (s.dozeFollows b).pending = s.pending := by
  simp only [State.dozeFollows]; (repeat' split) <;> simp

@[simp] theorem State.wakeForPowerUp_table : (s.wakeForPowerUp).table = s.table := by
  simp only [State.wakeForPowerUp]; (repeat' split) <;> simp
@[simp] theorem State.wakeForPowerUp_grants : (s.wakeForPowerUp).grants = s.grants := by
  simp only [State.wakeForPowerUp]; (repeat' split) <;> simp
@[simp] theorem State.wakeForPowerUp_seq : (s.wakeForPowerUp).seq = s.seq := by
  simp only [State.wakeForPowerUp]; (repeat' split) <;> simp
@[simp] theorem State.wakeForPowerUp_gauge : (s.wakeForPowerUp).gauge = s.gauge := by
  simp only [State.wakeForPowerUp]; (repeat' split) <;> simp
@[simp] theorem State.wakeForPowerUp_clock : (s.wakeForPowerUp).clock = s.clock := by
  simp only [State.wakeForPowerUp]; (repeat' split) <;> simp
@[simp] theorem State.wakeForPowerUp_attention : (s.wakeForPowerUp).attention = s.attention := by
  simp only [State.wakeForPowerUp]; (repeat' split) <;> simp
@[simp] theorem State.wakeForPowerUp_link : (s.wakeForPowerUp).link = s.link := by
  simp only [State.wakeForPowerUp]; (repeat' split) <;> simp
@[simp] theorem State.wakeForPowerUp_pins : (s.wakeForPowerUp).pins = s.pins := by
  simp only [State.wakeForPowerUp]; (repeat' split) <;> simp
@[simp] theorem State.wakeForPowerUp_freeCount : (s.wakeForPowerUp).freeCount = s.freeCount := by
  simp only [State.wakeForPowerUp]; (repeat' split) <;> simp
@[simp] theorem State.wakeForPowerUp_pending : (s.wakeForPowerUp).pending = s.pending := by
  simp only [State.wakeForPowerUp]; (repeat' split) <;> simp

@[simp] theorem State.handCritical_table (b : Bool) : (s.handCritical b).table = s.table := by
  simp only [State.handCritical]; (repeat' split) <;> simp
@[simp] theorem State.handCritical_grants (b : Bool) : (s.handCritical b).grants = s.grants := by
  simp only [State.handCritical]; (repeat' split) <;> simp
@[simp] theorem State.handCritical_gauge (b : Bool) : (s.handCritical b).gauge = s.gauge := by
  simp only [State.handCritical]; (repeat' split) <;> simp
@[simp] theorem State.handCritical_clock (b : Bool) : (s.handCritical b).clock = s.clock := by
  simp only [State.handCritical]; (repeat' split) <;> simp
@[simp] theorem State.handCritical_attention (b : Bool) : (s.handCritical b).attention = s.attention := by
  simp only [State.handCritical]; (repeat' split) <;> simp
@[simp] theorem State.handCritical_link (b : Bool) : (s.handCritical b).link = s.link := by
  simp only [State.handCritical]; (repeat' split) <;> simp
@[simp] theorem State.handCritical_pins (b : Bool) : (s.handCritical b).pins = s.pins := by
  simp only [State.handCritical]; (repeat' split) <;> simp
@[simp] theorem State.handCritical_freeCount (b : Bool) : (s.handCritical b).freeCount = s.freeCount := by
  simp only [State.handCritical]; (repeat' split) <;> simp
@[simp] theorem State.handCritical_pending (b : Bool) : (s.handCritical b).pending = s.pending := by
  simp only [State.handCritical]; (repeat' split) <;> simp

@[simp] theorem State.evaluate_table (b e : Bool) : (s.evaluate b e).table = s.table := by
  simp only [State.evaluate]; (repeat' split) <;> simp
@[simp] theorem State.evaluate_grants (b e : Bool) : (s.evaluate b e).grants = s.grants := by
  simp only [State.evaluate]; (repeat' split) <;> simp
@[simp] theorem State.evaluate_gauge (b e : Bool) : (s.evaluate b e).gauge = s.gauge := by
  simp only [State.evaluate]; (repeat' split) <;> simp
@[simp] theorem State.evaluate_clock (b e : Bool) : (s.evaluate b e).clock = s.clock := by
  simp only [State.evaluate]; (repeat' split) <;> simp
@[simp] theorem State.evaluate_link (b e : Bool) : (s.evaluate b e).link = s.link := by
  simp only [State.evaluate]; (repeat' split) <;> simp
@[simp] theorem State.evaluate_pins (b e : Bool) : (s.evaluate b e).pins = s.pins := by
  simp only [State.evaluate]; (repeat' split) <;> simp
@[simp] theorem State.evaluate_freeCount (b e : Bool) : (s.evaluate b e).freeCount = s.freeCount := by
  simp only [State.evaluate]; (repeat' split) <;> simp
@[simp] theorem State.evaluate_pending (b e : Bool) : (s.evaluate b e).pending = s.pending := by
  simp only [State.evaluate]; (repeat' split) <;> simp

@[simp] theorem State.openChanged_table : (s.openChanged).table = s.table := by
  simp [State.openChanged]
@[simp] theorem State.openChanged_grants : (s.openChanged).grants = s.grants := by
  simp [State.openChanged]
@[simp] theorem State.openChanged_gauge : (s.openChanged).gauge = s.gauge := by
  simp [State.openChanged]
@[simp] theorem State.openChanged_clock : (s.openChanged).clock = s.clock := by
  simp [State.openChanged]
@[simp] theorem State.openChanged_link : (s.openChanged).link = s.link := by
  simp [State.openChanged]
@[simp] theorem State.openChanged_pins : (s.openChanged).pins = s.pins := by
  simp [State.openChanged]
@[simp] theorem State.openChanged_freeCount : (s.openChanged).freeCount = s.freeCount := by
  simp [State.openChanged]
@[simp] theorem State.openChanged_pending : (s.openChanged).pending = s.pending := by
  simp [State.openChanged]

@[simp] theorem State.sealEntry_grants (i : Fin 64) : (s.sealEntry i).grants = s.grants := by
  simp only [State.sealEntry]; (repeat' split) <;> simp
@[simp] theorem State.sealEntry_gauge (i : Fin 64) : (s.sealEntry i).gauge = s.gauge := by
  simp only [State.sealEntry]; (repeat' split) <;> simp
@[simp] theorem State.sealEntry_clock (i : Fin 64) : (s.sealEntry i).clock = s.clock := by
  simp only [State.sealEntry]; (repeat' split) <;> simp
@[simp] theorem State.sealEntry_link (i : Fin 64) : (s.sealEntry i).link = s.link := by
  simp only [State.sealEntry]; (repeat' split) <;> simp
@[simp] theorem State.sealEntry_pins (i : Fin 64) : (s.sealEntry i).pins = s.pins := by
  simp only [State.sealEntry]; (repeat' split) <;> simp
@[simp] theorem State.sealEntry_freeCount (i : Fin 64) : (s.sealEntry i).freeCount = s.freeCount := by
  simp only [State.sealEntry]; (repeat' split) <;> simp
@[simp] theorem State.sealEntry_pending (i : Fin 64) : (s.sealEntry i).pending = s.pending := by
  simp only [State.sealEntry]; (repeat' split) <;> simp

@[simp] theorem State.settleEntry_grants (i : Fin 64) : (s.settleEntry i).grants = s.grants := by
  simp only [State.settleEntry]; (repeat' split) <;> simp
@[simp] theorem State.settleEntry_gauge (i : Fin 64) : (s.settleEntry i).gauge = s.gauge := by
  simp only [State.settleEntry]; (repeat' split) <;> simp
@[simp] theorem State.settleEntry_clock (i : Fin 64) : (s.settleEntry i).clock = s.clock := by
  simp only [State.settleEntry]; (repeat' split) <;> simp
@[simp] theorem State.settleEntry_link (i : Fin 64) : (s.settleEntry i).link = s.link := by
  simp only [State.settleEntry]; (repeat' split) <;> simp
@[simp] theorem State.settleEntry_pins (i : Fin 64) : (s.settleEntry i).pins = s.pins := by
  simp only [State.settleEntry]; (repeat' split) <;> simp
@[simp] theorem State.settleEntry_freeCount (i : Fin 64) : (s.settleEntry i).freeCount = s.freeCount := by
  simp only [State.settleEntry]; (repeat' split) <;> simp
@[simp] theorem State.settleEntry_pending (i : Fin 64) : (s.settleEntry i).pending = s.pending := by
  simp only [State.settleEntry]; (repeat' split) <;> simp

@[simp] theorem State.setGrant_table (k : Fin 8) (g : Option Grant) : (s.setGrant k g).table = s.table := by
  simp [State.setGrant]
@[simp] theorem State.setGrant_guard (k : Fin 8) (g : Option Grant) : (s.setGrant k g).guard = s.guard := by
  simp [State.setGrant]
@[simp] theorem State.setGrant_seq (k : Fin 8) (g : Option Grant) : (s.setGrant k g).seq = s.seq := by
  simp [State.setGrant]
@[simp] theorem State.setGrant_gauge (k : Fin 8) (g : Option Grant) : (s.setGrant k g).gauge = s.gauge := by
  simp [State.setGrant]
@[simp] theorem State.setGrant_supply (k : Fin 8) (g : Option Grant) : (s.setGrant k g).supply = s.supply := by
  simp [State.setGrant]
@[simp] theorem State.setGrant_clock (k : Fin 8) (g : Option Grant) : (s.setGrant k g).clock = s.clock := by
  simp [State.setGrant]
@[simp] theorem State.setGrant_attention (k : Fin 8) (g : Option Grant) : (s.setGrant k g).attention = s.attention := by
  simp [State.setGrant]
@[simp] theorem State.setGrant_link (k : Fin 8) (g : Option Grant) : (s.setGrant k g).link = s.link := by
  simp [State.setGrant]
@[simp] theorem State.setGrant_pins (k : Fin 8) (g : Option Grant) : (s.setGrant k g).pins = s.pins := by
  simp [State.setGrant]
@[simp] theorem State.setGrant_freeCount (k : Fin 8) (g : Option Grant) : (s.setGrant k g).freeCount = s.freeCount := by
  simp [State.setGrant]
@[simp] theorem State.setGrant_pending (k : Fin 8) (g : Option Grant) : (s.setGrant k g).pending = s.pending := by
  simp [State.setGrant]

@[simp] theorem State.issueGrant_table (k : Fin 8) (e : Option (Fin 64)) (w a n : Nat) : (s.issueGrant k e w a n).table = s.table := by
  simp [State.issueGrant]
@[simp] theorem State.issueGrant_guard (k : Fin 8) (e : Option (Fin 64)) (w a n : Nat) : (s.issueGrant k e w a n).guard = s.guard := by
  simp [State.issueGrant]
@[simp] theorem State.issueGrant_seq (k : Fin 8) (e : Option (Fin 64)) (w a n : Nat) : (s.issueGrant k e w a n).seq = s.seq := by
  simp [State.issueGrant]
@[simp] theorem State.issueGrant_gauge (k : Fin 8) (e : Option (Fin 64)) (w a n : Nat) : (s.issueGrant k e w a n).gauge = s.gauge := by
  simp [State.issueGrant]
@[simp] theorem State.issueGrant_supply (k : Fin 8) (e : Option (Fin 64)) (w a n : Nat) : (s.issueGrant k e w a n).supply = s.supply := by
  simp [State.issueGrant]
@[simp] theorem State.issueGrant_clock (k : Fin 8) (e : Option (Fin 64)) (w a n : Nat) : (s.issueGrant k e w a n).clock = s.clock := by
  simp [State.issueGrant]
@[simp] theorem State.issueGrant_attention (k : Fin 8) (e : Option (Fin 64)) (w a n : Nat) : (s.issueGrant k e w a n).attention = s.attention := by
  simp [State.issueGrant]
@[simp] theorem State.issueGrant_link (k : Fin 8) (e : Option (Fin 64)) (w a n : Nat) : (s.issueGrant k e w a n).link = s.link := by
  simp [State.issueGrant]
@[simp] theorem State.issueGrant_pins (k : Fin 8) (e : Option (Fin 64)) (w a n : Nat) : (s.issueGrant k e w a n).pins = s.pins := by
  simp [State.issueGrant]
@[simp] theorem State.issueGrant_freeCount (k : Fin 8) (e : Option (Fin 64)) (w a n : Nat) : (s.issueGrant k e w a n).freeCount = s.freeCount := by
  simp [State.issueGrant]
@[simp] theorem State.issueGrant_pending (k : Fin 8) (e : Option (Fin 64)) (w a n : Nat) : (s.issueGrant k e w a n).pending = s.pending := by
  simp [State.issueGrant]

@[simp] theorem State.removeGrant_gauge (k : Fin 8) (g : Grant) (f : Entry → Entry) : (s.removeGrant k g f).gauge = s.gauge := by
  simp only [State.removeGrant]; (repeat' split) <;> simp
@[simp] theorem State.removeGrant_clock (k : Fin 8) (g : Grant) (f : Entry → Entry) : (s.removeGrant k g f).clock = s.clock := by
  simp only [State.removeGrant]; (repeat' split) <;> simp
@[simp] theorem State.removeGrant_link (k : Fin 8) (g : Grant) (f : Entry → Entry) : (s.removeGrant k g f).link = s.link := by
  simp only [State.removeGrant]; (repeat' split) <;> simp
@[simp] theorem State.removeGrant_pins (k : Fin 8) (g : Grant) (f : Entry → Entry) : (s.removeGrant k g f).pins = s.pins := by
  simp only [State.removeGrant]; (repeat' split) <;> simp
@[simp] theorem State.removeGrant_freeCount (k : Fin 8) (g : Grant) (f : Entry → Entry) : (s.removeGrant k g f).freeCount = s.freeCount := by
  simp only [State.removeGrant]; (repeat' split) <;> simp
@[simp] theorem State.removeGrant_pending (k : Fin 8) (g : Grant) (f : Entry → Entry) : (s.removeGrant k g f).pending = s.pending := by
  simp only [State.removeGrant]; (repeat' split) <;> simp

@[simp] theorem State.wake_table : (s.wake).table = s.table := by
  simp [State.wake]
@[simp] theorem State.wake_grants : (s.wake).grants = s.grants := by
  simp [State.wake]
@[simp] theorem State.wake_seq : (s.wake).seq = s.seq := by
  simp [State.wake]
@[simp] theorem State.wake_gauge : (s.wake).gauge = s.gauge := by
  simp [State.wake]
@[simp] theorem State.wake_clock : (s.wake).clock = s.clock := by
  simp [State.wake]
@[simp] theorem State.wake_attention : (s.wake).attention = s.attention := by
  simp [State.wake]
@[simp] theorem State.wake_pins : (s.wake).pins = s.pins := by
  simp [State.wake]
@[simp] theorem State.wake_freeCount : (s.wake).freeCount = s.freeCount := by
  simp [State.wake]
@[simp] theorem State.wake_pending : (s.wake).pending = s.pending := by
  simp [State.wake]

@[simp] theorem State.answerWrite_table (a : Answer) : (s.answerWrite a).table = s.table := by
  simp [State.answerWrite]
@[simp] theorem State.answerWrite_grants (a : Answer) : (s.answerWrite a).grants = s.grants := by
  simp [State.answerWrite]
@[simp] theorem State.answerWrite_guard (a : Answer) : (s.answerWrite a).guard = s.guard := by
  simp [State.answerWrite]
@[simp] theorem State.answerWrite_seq (a : Answer) : (s.answerWrite a).seq = s.seq := by
  simp [State.answerWrite]
@[simp] theorem State.answerWrite_gauge (a : Answer) : (s.answerWrite a).gauge = s.gauge := by
  simp [State.answerWrite]
@[simp] theorem State.answerWrite_supply (a : Answer) : (s.answerWrite a).supply = s.supply := by
  simp [State.answerWrite]
@[simp] theorem State.answerWrite_clock (a : Answer) : (s.answerWrite a).clock = s.clock := by
  simp [State.answerWrite]
@[simp] theorem State.answerWrite_attention (a : Answer) : (s.answerWrite a).attention = s.attention := by
  simp [State.answerWrite]
@[simp] theorem State.answerWrite_pins (a : Answer) : (s.answerWrite a).pins = s.pins := by
  simp [State.answerWrite]
@[simp] theorem State.answerWrite_freeCount (a : Answer) : (s.answerWrite a).freeCount = s.freeCount := by
  simp [State.answerWrite]
@[simp] theorem State.answerWrite_pending (a : Answer) : (s.answerWrite a).pending = s.pending := by
  simp [State.answerWrite]

end Sys2Proof.Machine
end

