-- ==== Sys2Proof/Laws/Ops.lean ====
section
/-! SUPPORT. What a transfer of the bridge does, said once: the operations of the blocks neither read nor move the Link Port and
the doze timer (`State.under`), so a request is served in the state it finds (`State.request_heard`). -/

namespace Sys2Proof.Machine

/-- The state with this Link Port and this doze timer. -/
def State.under (l : Link) (d : Timer) (s : State) : State :=
  { s with link := l, supply := { s.supply with dozeTimer := d } }

variable (l : Link) (d : Timer) (s : State)

@[simp] theorem State.under_table : (s.under l d).table = s.table := rfl
@[simp] theorem State.under_grants : (s.under l d).grants = s.grants := rfl
@[simp] theorem State.under_guard : (s.under l d).guard = s.guard := rfl
@[simp] theorem State.under_seq : (s.under l d).seq = s.seq := rfl
@[simp] theorem State.under_gauge : (s.under l d).gauge = s.gauge := rfl
@[simp] theorem State.under_clock : (s.under l d).clock = s.clock := rfl
@[simp] theorem State.under_attention : (s.under l d).attention = s.attention := rfl
@[simp] theorem State.under_link : (s.under l d).link = l := rfl
@[simp] theorem State.under_pins : (s.under l d).pins = s.pins := rfl
@[simp] theorem State.under_freeCount : (s.under l d).freeCount = s.freeCount := rfl
@[simp] theorem State.under_pending : (s.under l d).pending = s.pending := rfl
@[simp] theorem State.under_supply : (s.under l d).supply = { s.supply with dozeTimer := d } := rfl
@[simp] theorem State.under_blocks : (s.under l d).blocks = s.blocks := rfl
@[simp] theorem State.under_under (l' : Link) (d' : Timer) : (s.under l' d').under l d = s.under l d := rfl
theorem State.under_self : s.under s.link s.supply.dozeTimer = s := rfl

/-! ## What the blocks compute is the same under every Link Port -/

@[simp] theorem State.entry_under (i : Fin 64) : (s.under l d).entry i = s.entry i := rfl
@[simp] theorem State.nOpen_under : (s.under l d).nOpen = s.nOpen := rfl
@[simp] theorem State.freePool_under : (s.under l d).freePool = s.freePool := rfl
@[simp] theorem State.liveWindows_under : (s.under l d).liveWindows = s.liveWindows := rfl
@[simp] theorem State.overlapsLive_under (w : Window) : (s.under l d).overlapsLive w = s.overlapsLive w := rfl
@[simp] theorem State.lookup_under (b : Nat) : (s.under l d).lookup b = s.lookup b := rfl
@[simp] theorem State.findSurvey_under (n : Nat) : (s.under l d).findSurvey n = s.findSurvey n := rfl
@[simp] theorem State.lowestFree_under : (s.under l d).lowestFree = s.lowestFree := rfl
@[simp] theorem State.outstanding_under (i : Fin 64) : (s.under l d).outstanding i = s.outstanding i := rfl
@[simp] theorem State.named_under (i : Fin 64) : (s.under l d).named i = s.named i := rfl
@[simp] theorem State.grantsEmpty_under : (s.under l d).grantsEmpty = s.grantsEmpty := rfl
@[simp] theorem State.grantList_under : (s.under l d).grantList = s.grantList := rfl
@[simp] theorem State.lowestFreeGrant_under : (s.under l d).lowestFreeGrant = s.lowestFreeGrant := rfl
@[simp] theorem State.critical_under : (s.under l d).critical = s.critical := rfl
@[simp] theorem State.offDemand_under : (s.under l d).offDemand = s.offDemand := rfl
@[simp] theorem State.precondition_under : (s.under l d).precondition = s.precondition := rfl
@[simp] theorem State.threshold_under : (s.under l d).threshold = s.threshold := rfl
@[simp] theorem State.judgedLevel_under (e : Bool) : (s.under l d).judgedLevel e = s.judgedLevel e := rfl
@[simp] theorem State.demandCause_under : (s.under l d).demandCause = s.demandCause := rfl

/-! ## What the operations do is the same under every Link Port -/

@[simp] theorem State.onTable_under (f : SurveyTable → SurveyTable) :
    (s.under l d).onTable f = (s.onTable f).under l d := rfl
@[simp] theorem State.onGrants_under (f : GrantTable → GrantTable) :
    (s.under l d).onGrants f = (s.onGrants f).under l d := rfl
@[simp] theorem State.onGuard_under (f : Guard → Guard) : (s.under l d).onGuard f = (s.onGuard f).under l d := rfl
@[simp] theorem State.onSeq_under (f : Sequencer → Sequencer) : (s.under l d).onSeq f = (s.onSeq f).under l d := rfl
@[simp] theorem State.onGauge_under (f : Gauge → Gauge) : (s.under l d).onGauge f = (s.onGauge f).under l d := rfl
@[simp] theorem State.onClock_under (f : Clock → Clock) : (s.under l d).onClock f = (s.onClock f).under l d := rfl
@[simp] theorem State.onAttention_under (f : Attention → Attention) :
    (s.under l d).onAttention f = (s.onAttention f).under l d := rfl
@[simp] theorem State.onPins_under (f : Pins → Pins) : (s.under l d).onPins f = (s.onPins f).under l d := rfl
@[simp] theorem State.raise_under (c : Cause) : (s.under l d).raise c = (s.raise c).under l d := rfl
@[simp] theorem State.leaveDoze_under : (s.under l d).leaveDoze = s.leaveDoze.under l d := rfl
@[simp] theorem State.setEntry_under (i : Fin 64) (e : Entry) :
    (s.under l d).setEntry i e = (s.setEntry i e).under l d := rfl
@[simp] theorem State.modifyEntry_under (i : Fin 64) (f : Entry → Entry) :
    (s.under l d).modifyEntry i f = (s.modifyEntry i f).under l d := rfl
@[simp] theorem State.mapEntries_under (f : Fin 64 → Entry → Entry) :
    (s.under l d).mapEntries f = (s.mapEntries f).under l d := rfl
@[simp] theorem State.clearEntry_under (i : Fin 64) : (s.under l d).clearEntry i = (s.clearEntry i).under l d := rfl
@[simp] theorem State.setGrant_under (k : Fin 8) (g : Option Grant) :
    (s.under l d).setGrant k g = (s.setGrant k g).under l d := rfl
@[simp] theorem State.joltMarking_under : (s.under l d).joltMarking = s.joltMarking.under l d := rfl
@[simp] theorem State.issueGrant_under (k : Fin 8) (e : Option (Fin 64)) (w f n : Nat) :
    (s.under l d).issueGrant k e w f n = (s.issueGrant k e w f n).under l d := rfl

/-- An `if` whose branches are each seen under a Link Port. -/
theorem ite_under {p : Prop} [Decidable p] (t u : State) :
    (if p then t.under l d else u.under l d) = (if p then t else u).under l d := by split <;> rfl

@[simp] theorem State.powerUpCheck_under : (s.under l d).powerUpCheck = s.powerUpCheck.under l d := by
  simp only [State.powerUpCheck, ← ite_under]; rfl
@[simp] theorem State.wayDown_under : (s.under l d).wayDown = s.wayDown.under l d := by
  simp only [State.wayDown, ← ite_under]; rfl
@[simp] theorem State.readyReached_under : (s.under l d).readyReached = s.readyReached.under l d := by
  simp only [State.readyReached, ← ite_under, ← State.wayDown_under]; rfl
@[simp] theorem State.offReached_under : (s.under l d).offReached = s.offReached.under l d := by
  simp only [State.offReached, ← State.powerUpCheck_under]; rfl
@[simp] theorem State.enterCycleWait_under : (s.under l d).enterCycleWait = s.enterCycleWait.under l d := by
  simp only [State.enterCycleWait, ← ite_under, ← State.offReached_under]; rfl
@[simp] theorem State.emptySignal_under : (s.under l d).emptySignal = s.emptySignal.under l d := by
  simp only [State.emptySignal, ← ite_under]; rfl
@[simp] theorem State.wakeForPowerUp_under : (s.under l d).wakeForPowerUp = s.wakeForPowerUp.under l d := by
  simp only [State.wakeForPowerUp, ← ite_under]; rfl
@[simp] theorem State.handCritical_under (was : Bool) :
    (s.under l d).handCritical was = (s.handCritical was).under l d := by
  simp only [State.handCritical, State.critical_under, State.under_seq]
  rcases h : s.seq.state <;> simp only [State.wayDown_under, State.onSeq_under, State.offDemand_under,
    State.wakeForPowerUp_under, State.powerUpCheck_under] <;>
    cases was <;> rcases Bool.eq_false_or_eq_true s.critical with h2 | h2 <;>
    rcases Bool.eq_false_or_eq_true s.offDemand with h3 | h3 <;> simp [h2, h3]
@[simp] theorem State.evaluate_under (was e : Bool) :
    (s.under l d).evaluate was e = (s.evaluate was e).under l d := by
  simp only [State.evaluate, ← ite_under, ← State.handCritical_under]; rfl
@[simp] theorem State.openChanged_under : (s.under l d).openChanged = s.openChanged.under l d := by
  simp [State.openChanged]
@[simp] theorem State.sealEntry_under (i : Fin 64) : (s.under l d).sealEntry i = (s.sealEntry i).under l d := by
  simp only [State.sealEntry, ← ite_under, ← State.raise_under, ← State.openChanged_under]; rfl
@[simp] theorem State.settleEntry_under (i : Fin 64) :
    (s.under l d).settleEntry i = (s.settleEntry i).under l d := by
  simp only [State.settleEntry, State.named_under, State.entry_under]
  rcases h : (s.entry i).state <;> simp only [State.clearEntry_under, State.raise_under,
    State.sealEntry_under] <;>
    by_cases h1 : s.named i = true <;> by_cases h2 : (s.entry i).verify = true <;> simp [h1, h2]
@[simp] theorem State.removeGrant_under (k : Fin 8) (g : Grant) (f : Entry → Entry) :
    (s.under l d).removeGrant k g f = (s.removeGrant k g f).under l d := by
  rcases h : g.entry <;> simp [State.removeGrant, h]

@[simp] theorem State.actOnTarget_under : (s.under l d).actOnTarget = s.actOnTarget.under l d := by
  simp only [State.actOnTarget, State.under_seq]
  rcases h : s.seq.state <;> simp only [State.wayDown_under, State.onSeq_under, State.offDemand_under,
    State.powerUpCheck_under] <;>
    rcases Bool.eq_false_or_eq_true s.offDemand with h3 | h3 <;> by_cases h4 : s.seq.target = .off <;> simp [h3, h4]
@[simp] theorem State.setTarget_under (t : Target) : (s.under l d).setTarget t = (s.setTarget t).under l d := by
  simp [State.setTarget]
@[simp] theorem State.setCharge_under (n : Nat) : (s.under l d).setCharge n = (s.setCharge n).under l d := by
  simp [State.setCharge]
@[simp] theorem State.openIn_under (i : Fin 64) (n : Nat) (w : Window) (b : List Byte) :
    (s.under l d).openIn i n w b = (s.openIn i n w b).under l d := by
  simp [State.openIn]
@[simp] theorem State.setCycleDelay_under (n : Nat) :
    (s.under l d).setCycleDelay n = (s.setCycleDelay n).under l d := by
  simp only [State.setCycleDelay, ← ite_under, ← State.offReached_under]; rfl
theorem State.onSupply_under (f : Supply → Supply) (h : ∀ p, f { p with dozeTimer := d } = { f p with dozeTimer := d }) :
    (s.under l d).onSupply f = (s.onSupply f).under l d := by
  simp only [State.onSupply, State.under, h]
@[simp] theorem State.setParam_under (p : Param) (v : Nat) :
    (s.under l d).setParam p v = (s.setParam p v).under l d := by
  cases p <;> simp [State.setParam] <;> first | rfl | (rw [State.onSupply_under _ _ _ _ fun _ => rfl]; simp)

/-! ## What a request decides is the same under every Link Port -/

/-- A request's owning block neither reads nor moves the Link Port and the doze timer. -/
def Unlinked (serve : State → Served) : Prop :=
  ∀ l d s, serve (s.under l d) = ((serve s).1.under l d, (serve s).2)

theorem unlinked_unchanged (a : Answer) : Unlinked (State.unchanged a) := fun _ _ _ => rfl

theorem unlinked_readClock (p : List Byte) : Unlinked (serveReadClock p) := by
  intro l d s; simp only [serveReadClock]; split <;> rfl
theorem unlinked_readStatus (p : List Byte) : Unlinked (serveReadStatus p) := by
  intro l d s; simp only [serveReadStatus]; split <;> rfl
theorem unlinked_clearAttention (p : List Byte) : Unlinked (serveClearAttention p) := by
  intro l d s; simp only [serveClearAttention]; (repeat' split) <;> rfl
theorem unlinked_setClock (p : List Byte) : Unlinked (serveSetClock p) := by
  intro l d s; simp only [serveSetClock]; split <;> rfl
theorem unlinked_readParam (p : List Byte) : Unlinked (serveReadParam p) := by
  intro l d s; simp only [serveReadParam]; (repeat' split) <;> rfl
theorem unlinked_readGuard (p : List Byte) : Unlinked (serveReadGuard p) := by
  intro l d s; simp only [serveReadGuard]; split <;> rfl
theorem unlinked_readMechanism (p : List Byte) : Unlinked (serveReadMechanism p) := by
  intro l d s; simp only [serveReadMechanism]; split <;> rfl
theorem unlinked_readGauge (p : List Byte) : Unlinked (serveReadGauge p) := by
  intro l d s; simp only [serveReadGauge]; split <;> rfl
theorem unlinked_readGrants (p : List Byte) : Unlinked (serveReadGrants p) := by
  intro l d s; simp only [serveReadGrants]; split <;> rfl

theorem unlinked_onSurvey (n : Nat) (act : Fin 64 → State → Served) (h : ∀ i, Unlinked (act i)) :
    Unlinked fun s => s.onSurvey n fun i => act i s := by
  intro l d s
  simp only [State.onSurvey, State.findSurvey_under]
  split
  · rfl
  · split
    · rfl
    · exact h _ l d s

theorem unlinked_openSurvey (p : List Byte) : Unlinked (serveOpenSurvey p) := by
  intro l d s
  have e : ∀ n w b, (s.under l d).openRefusal n w b = s.openRefusal n w b := fun _ _ _ => rfl
  simp only [serveOpenSurvey, e, State.lowestFree_under, State.openIn_under]
  (repeat' split) <;> rfl
theorem unlinked_addWindow (p : List Byte) : Unlinked (serveAddWindow p) := by
  intro l d s
  simp only [serveAddWindow]
  split
  · rfl
  · split
    · rfl
    · rename_i n w _ _
      exact unlinked_onSurvey n (fun i s => match s.addRefusal i w with
        | some c => s.unchanged (refusal c)
        | none =>
          let t := s.modifyEntry i (Entry.addWindow w)
          (t, okAnswer (be1 (s.entry i).windows.length ++ be1 t.freePool)))
        (fun i l d s => by
          have e : (s.under l d).addRefusal i w = s.addRefusal i w := rfl
          simp only [e]; split <;> rfl) l d s
theorem unlinked_dropWindow (p : List Byte) : Unlinked (serveDropWindow p) := by
  intro l d s
  simp only [serveDropWindow]
  split
  · rfl
  · rename_i n _
    exact unlinked_onSurvey n (fun i s => match s.dropRefusal i, (s.entry i).windows.getLast? with
      | some c, _ => s.unchanged (refusal c)
      | none, none => s.unchanged (refusal .badState)
      | none, some w =>
        let t := s.modifyEntry i Entry.dropWindow
        (t, okAnswer (w.bytes ++ be1 t.freePool)))
      (fun i l d s => by
        have e : (s.under l d).dropRefusal i = s.dropRefusal i := rfl
        simp only [e, State.entry_under]; (repeat' split) <;> rfl) l d s
theorem unlinked_findSurvey (p : List Byte) : Unlinked (serveFindSurvey p) := by
  intro l d s
  simp only [serveFindSurvey]
  split
  · rfl
  · exact unlinked_onSurvey _ (fun i s => s.unchanged (okAnswer (s.entryReport i))) (fun _ _ _ _ => rfl) l d s
theorem unlinked_findBlock (p : List Byte) : Unlinked (serveFindBlock p) := by
  intro l d s; simp only [serveFindBlock, State.lookup_under]; (repeat' split) <;> rfl
theorem unlinked_readEntry (p : List Byte) : Unlinked (serveReadEntry p) := by
  intro l d s; simp only [serveReadEntry]; (repeat' split) <;> first | rfl | contradiction
theorem unlinked_nextEntry (p : List Byte) : Unlinked (serveNextEntry p) := by
  intro l d s
  have e : ∀ n, (s.under l d).nextLive n = s.nextLive n := fun _ => rfl
  simp only [serveNextEntry, e, State.entry_under]; (repeat' split) <;> rfl
theorem unlinked_rename (p : List Byte) : Unlinked (serveRename p) := by
  intro l d s
  simp only [serveRename]
  split
  · rfl
  · split
    · rfl
    · rename_i n b _ _
      exact unlinked_onSurvey n (fun i s => (s.modifyEntry i (Entry.relabel b), okAnswer []))
        (fun _ _ _ _ => rfl) l d s

theorem unlinked_servedState (i : Fin 64) (n : Nat) : Unlinked fun s => s.servedState i n := fun _ _ _ => rfl

theorem unlinked_sealAt (i : Fin 64) (n : Nat) : Unlinked (State.sealAt i n) := by
  intro l d s
  simp only [State.sealAt, State.entry_under, State.named_under, State.modifyEntry_under, State.sealEntry_under]
  (repeat' split) <;> rfl
theorem unlinked_verifiedAt (i : Fin 64) (n : Nat) : Unlinked (State.verifiedAt i n) := by
  intro l d s
  simp only [State.verifiedAt, State.entry_under, State.named_under, State.modifyEntry_under, State.sealEntry_under]
  split <;> first | rfl | (by_cases h : s.named i = true <;> simp only [h, if_true] <;> rfl)
theorem unlinked_reopenAt (i : Fin 64) (n : Nat) : Unlinked (State.reopenAt i n) := by
  intro l d s
  simp only [State.reopenAt, State.entry_under, State.modifyEntry_under]
  (repeat' split) <;> rfl
theorem unlinked_holdAt (i : Fin 64) (n : Nat) : Unlinked (State.holdAt i n) := fun _ _ _ => rfl
theorem unlinked_retireAt (i : Fin 64) (n : Nat) : Unlinked (State.retireAt i n) := by
  intro l d s
  simp only [State.retireAt, State.entry_under, State.under_clock, State.named_under, State.modifyEntry_under,
    State.clearEntry_under, State.openChanged_under]
  (repeat' split) <;> rfl

theorem unlinked_seal (p : List Byte) : Unlinked (serveSeal p) := by
  intro l d s; simp only [serveSeal]; split
  · rfl
  · exact unlinked_onSurvey _ (fun i s => s.sealAt i _) (fun i => unlinked_sealAt i _) l d s
theorem unlinked_verified (p : List Byte) : Unlinked (serveVerified p) := by
  intro l d s; simp only [serveVerified]; split
  · rfl
  · exact unlinked_onSurvey _ (fun i s => s.verifiedAt i _) (fun i => unlinked_verifiedAt i _) l d s
theorem unlinked_reopen (p : List Byte) : Unlinked (serveReopen p) := by
  intro l d s; simp only [serveReopen]; split
  · rfl
  · exact unlinked_onSurvey _ (fun i s => s.reopenAt i _) (fun i => unlinked_reopenAt i _) l d s
theorem unlinked_setHold (p : List Byte) : Unlinked (serveSetHold p) := by
  intro l d s; simp only [serveSetHold]; split
  · rfl
  · exact unlinked_onSurvey _ (fun i s => s.holdAt i _) (fun i => unlinked_holdAt i _) l d s
theorem unlinked_retire (p : List Byte) : Unlinked (serveRetire p) := by
  intro l d s; simp only [serveRetire]; split
  · rfl
  · exact unlinked_onSurvey _ (fun i s => s.retireAt i _) (fun i => unlinked_retireAt i _) l d s
theorem unlinked_restore (p : List Byte) : Unlinked (serveRestore p) := by
  intro l d s
  have e : ∀ n b ws, (s.under l d).restoreRefusal n b ws = s.restoreRefusal n b ws := fun _ _ _ => rfl
  simp only [serveRestore, e, State.lowestFree_under]; (repeat' split) <;> rfl

theorem unlinked_grantOrHold (i : Option (Fin 64)) (w f n : Nat) : Unlinked (State.grantOrHold i w f n) := by
  intro l d s
  have e : (s.under l d).holdReason = s.holdReason := rfl
  simp only [State.grantOrHold, e, State.lowestFreeGrant_under]
  split <;> first | rfl | (cases i <;> rfl)
theorem unlinked_checkRange (f n : Nat) : Unlinked (State.checkRange f n) := by
  intro l d s
  have e : ∀ b, (s.under l d).gapPrefix b f n = s.gapPrefix b f n := fun _ => rfl
  have g := fun i w => unlinked_grantOrHold i w f n l d s
  simp only [State.checkRange, State.lookup_under, State.under_table, State.checkCovered, State.checkUncovered,
    State.entry_under, e, g]
  (repeat' split) <;> rfl
theorem unlinked_checkWrite (p : List Byte) : Unlinked (serveCheckWrite p) := by
  intro l d s; simp only [serveCheckWrite]; split
  · rfl
  · exact unlinked_checkRange _ _ l d s
theorem unlinked_writeDone (p : List Byte) : Unlinked (serveWriteDone p) := by
  intro l d s
  have e : ∀ n, (s.under l d).grantOfTag n = s.grantOfTag n := fun _ => rfl
  simp only [serveWriteDone, e, State.removeGrant_under]; (repeat' split) <;> rfl
theorem unlinked_setTarget (p : List Byte) : Unlinked (serveSetTarget p) := by
  intro l d s; simp only [serveSetTarget, State.setTarget_under]; split <;> rfl
theorem unlinked_setCharge (p : List Byte) : Unlinked (serveSetCharge p) := by
  intro l d s; simp only [serveSetCharge, State.setCharge_under]; split <;> rfl
theorem unlinked_setParam (p : List Byte) : Unlinked (serveSetParam p) := by
  intro l d s
  have e : ∀ q v, (s.under l d).paramRefusal q v = s.paramRefusal q v := fun _ _ => rfl
  have v : ∀ q v, (s.under l d).valueTaken q v = s.valueTaken q v := fun _ _ => rfl
  simp only [serveSetParam, e, v, State.setParam_under]; (repeat' split) <;> rfl

/-- RESTART reads neither, and leaves the doze timer stopped whatever it was. -/
theorem State.restart_under : (s.under l d).restart = s.restart.under l none := by
  have t : ((s.under l d).onAttention Attention.start).startSettling =
      ((s.onAttention Attention.start).startSettling).under l d := by
    simp only [State.startSettling, ← ite_under]; rfl
  simp only [State.restart, t, State.onGrants_under, State.onGuard_under, State.onSeq_under, State.critical_under]
  rw [← State.raise_under, ← State.evaluate_under]
  rfl

/-! ## A request heard in RUN -/

theorem judgeWrite_request (code : Byte) (p : List Byte) (hp : p.length ≤ 80) (hc : requestCodes.contains code = true) :
    judge (storedBytes (requestFrame code p)) (countedBytes (requestFrame code p)) = .request code p := by
  have e : (BitVec.ofNat 8 p.length).toNat = p.length := by simp; omega
  have t : storedBytes (requestFrame code p) = requestFrame code p := by
    apply List.take_of_length_le; simp [requestFrame, Config.bufferBytes]; omega
  have n : countedBytes (requestFrame code p) = p.length + 2 := by
    simp [countedBytes, requestFrame]; omega
  rw [t, n]
  unfold judge requestFrame
  rw [if_neg (by omega)]
  dsimp only
  rw [if_neg (by unfold Config.maxPayload; omega), if_pos hc]

theorem Link.answering_eq (l : Link) (code : Byte) (p : List Byte) (a : Answer) :
    (l.receive (requestFrame code p)).form a = l.answering a := by
  simp [Link.receive, Link.form, Link.answering, requestFrame]

theorem State.dozeCondition_busy (t : State) (h : t.link.state ≠ .idle) : t.dozeCondition = false := by
  simp [State.dozeCondition, Link.isIdle, h]

/-- A well-formed request the port hears in RUN is taken by its owning block in the state it finds; the link is left forming the
answer. `timer` is what the request itself does to the doze timer. -/
theorem State.request_taken (timer : Timer → Timer) (c : Instr) (code : Byte) (p : List Byte) (serve : List Byte → State → Served)
    (hl : s.listens) (hp : p.length ≤ 80) (hc : requestCodes.contains code = true)
    (hu : ∀ l d s, serve p (s.under l d) = ((serve p s).1.under l (timer d), (serve p s).2)) :
    s.request c code p serve =
      (serve p s).1.under (s.link.answering (serve p s).2)
        (timer (if s.dozeCondition then none else s.supply.dozeTimer)) := by
  obtain ⟨hm, hk, hi, hw, hf⟩ := hl
  have hg : s.link.ignores = false := by simp [Link.ignores, hi, hw]
  set d := (if s.dozeCondition then none else s.supply.dozeTimer) with hd
  set r := s.link.receive (requestFrame code p) with hr
  have hs : r.state = .receiving := rfl
  have busy : (s.onLink (Link.receive (requestFrame code p))).dozeFollows s.dozeCondition = s.under r d := by
    have f : (s.onLink (Link.receive (requestFrame code p))).dozeCondition = false :=
      State.dozeCondition_busy _ (by simp [State.onLink, Link.receive])
    simp only [State.dozeFollows, f]
    rcases Bool.eq_false_or_eq_true s.dozeCondition with h | h <;> simp [h, hd] <;> rfl
  have f : (s.under r d).dozeCondition = false := State.dozeCondition_busy _ (by simp [hs])
  have b1 : (s.under r d).link.buffer = storedBytes (requestFrame code p) := rfl
  have b2 : (s.under r d).link.count = countedBytes (requestFrame code p) := rfl
  simp only [State.request, State.transfer, hm, hk, hf, hg, busy, f, b1, b2, judgeWrite_request code p hp hc]
  have e := hu r d s
  have a : ((serve p (s.under r d)).1).answerWrite ((serve p (s.under r d)).2) =
      (serve p s).1.under (s.link.answering (serve p s).2) (timer d) := by
    rw [e, ← Link.answering_eq s.link code p]; rfl
  have g : ((serve p s).1.under (s.link.answering (serve p s).2) (timer d)).dozeCondition = false :=
    State.dozeCondition_busy _ (by simp [Link.answering])
  simp only [a, State.dozeFollows, g]
  simp

/-- A request that leaves the doze timer alone: a doze condition that held has ended. -/
theorem State.request_heard (c : Instr) (code : Byte) (p : List Byte) (serve : List Byte → State → Served) (hl : s.listens)
    (hp : p.length ≤ 80) (hc : requestCodes.contains code = true) (hu : Unlinked (serve p)) :
    s.request c code p serve =
      (serve p s).1.under (s.link.answering (serve p s).2)
        (if s.dozeCondition then none else s.supply.dozeTimer) :=
  s.request_taken id c code p serve hl hp hc hu

/-- RESTART is taken in the state it finds, and leaves the doze timer stopped. -/
theorem State.restart_heard (c : Instr) (hl : s.listens) :
    s.request c 0x03 [] serveRestart = s.restart.under (s.link.answering (okAnswer [])) none := by
  refine s.request_taken (fun _ => none) c 0x03 [] serveRestart hl (by simp) (by decide) ?_
  intro l d t
  simp only [serveRestart, readNothing, State.restart_under]

/-- A request the port hears is served as its owning block decides in the state it finds. -/
theorem serves_of_request {c : Instr} {s u : State} {a : Answer} {code : Byte} {p : List Byte}
    {serve : List Byte → State → Served} (he : exec c s = .next (s.request c code p serve)) (hl : s.listens)
    (hp : p.length ≤ 80) (hc : requestCodes.contains code = true) (hu : Unlinked (serve p))
    (hb : (serve p s).1.blocks = u.blocks) (ha : (serve p s).2 = a) : Serves c s u a := by
  refine ⟨_, he.trans (by rw [State.request_heard s c code p serve hl hp hc hu]), ?_, ?_, ?_⟩
  · simpa using hb
  · simp [ha]
  · simp

/-! ## What a transfer does where it is not taken -/

/-- In FORMING a transfer is held with the clock low (R195). -/
theorem State.transfer_held (c : Instr) (dir : Dir) (lost start : Link → Link) (rest : State → State)
    (hm : s.supply.mode = .run) (h : s.link.ignores = false) (hl : s.pins.lclrN = true) (hf : s.link.state = .forming) :
    s.transfer c dir lost start rest = s.onLink fun l => (l.stretch dir).defer c := by
  simp [State.transfer, hm, h, hl, hf]

/-- In RETAIN, and while LCLR_N is low with no transfer ignored, a transfer is not acknowledged (R191). -/
theorem State.transfer_unacknowledged (c : Instr) (dir : Dir) (lost start : Link → Link) (rest : State → State)
    (h : s.supply.mode = .retain ∨ (s.link.ignores = false ∧ s.pins.lclrN = false)) :
    s.transfer c dir lost start rest = s.onLink fun l => { l with acked := false } := by
  rcases h with h | ⟨h, h'⟩
  · simp [State.transfer, h]
  · by_cases hm : s.supply.mode = .retain <;> simp [State.transfer, h, h', hm]

/-- Outside RETAIN the end of a transfer whose rest is ignored is an event of the link alone (R198, R199). -/
theorem State.transfer_ignored (c : Instr) (dir : Dir) (lost start : Link → Link) (rest : State → State)
    (hm : s.supply.mode ≠ .retain) (h : s.link.ignores = true) :
    s.transfer c dir lost start rest = s.event fun t => t.onLink lost := by
  simp [State.transfer, hm, h]

/-- In DOZE a transfer wakes the part and ends (R157, R198). -/
theorem State.transfer_doze (c : Instr) (dir : Dir) (lost start : Link → Link) (rest : State → State)
    (hm : s.supply.mode = .doze) (h : s.link.ignores = false) (hl : s.pins.lclrN = true) :
    s.transfer c dir lost start rest = (s.wake.onLink fun l => { l with state := .idle }).dozeFollows false := by
  simp [State.transfer, hm, h, hl]

/-- What is passed over moves only the acknowledge bit, the bytes sent and whether a transfer is ignored, and ends WAKING. -/
theorem Link.passOver_eq (l : Link) (c : Instr) (h : l.state = .idle) :
    ∃ acked sent ignored, l.passOver c = { l with acked := acked, sent := sent, ignored := ignored } := by
  cases l
  cases h
  unfold Link.passOver
  split <;> (try split) <;> exact ⟨_, _, _, rfl⟩

/-- The same of all that waited. -/
theorem Link.foldl_passOver_eq (cs : List Instr) (l : Link) (h : l.state = .idle) :
    ∃ acked sent ignored, cs.foldl Link.passOver l = { l with acked := acked, sent := sent, ignored := ignored } := by
  induction cs generalizing l with
  | nil => exact ⟨l.acked, l.sent, l.ignored, rfl⟩
  | cons c cs ih =>
    obtain ⟨a, b, i, e⟩ := l.passOver_eq c h
    obtain ⟨a', b', i', e'⟩ := ih (l.passOver c) (by rw [e]; exact h)
    exact ⟨a', b', i', by rw [List.foldl_cons, e', e]⟩

/-- R199: the link clear leaves the link cleared, but for the record of the link and whether a transfer is ignored. -/
theorem Link.cut_eq (l : Link) :
    ∃ acked sent ignored, l.cut = { l.cleared with acked := acked, sent := sent, ignored := ignored } := by
  obtain ⟨a, b, i, e⟩ := Link.foldl_passOver_eq l.held { l.cleared with ignored := l.inTransfer } rfl
  exact ⟨a, b, i, e⟩

theorem Link.cut_of_held_nil {l : Link} (h : l.held = []) : l.cut = { l.cleared with ignored := l.inTransfer } := by
  simp [Link.cut, h]

@[simp] theorem Link.defer_held (l : Link) (c : Instr) : (l.defer c).held = l.held ++ [c] := rfl
@[simp] theorem Link.defer_state (l : Link) (c : Instr) : (l.defer c).state = l.state := rfl
@[simp] theorem Link.defer_waiting (l : Link) (c : Instr) : (l.defer c).waiting = l.waiting := rfl
@[simp] theorem Link.tick_ticked (l : Link) : l.tick.ticked = (l.state == .forming) := rfl
@[simp] theorem Link.tick_held (l : Link) : l.tick.held = [] := rfl
@[simp] theorem Link.tick_state (l : Link) : l.tick.state = l.state := rfl
@[simp] theorem Link.endIgnored_ignored (l : Link) : l.endIgnored.ignored = false := rfl
@[simp] theorem Link.endIgnored_answer (l : Link) : l.endIgnored.answer = l.answer := rfl
@[simp] theorem Link.lostWrite_ignored (l : Link) : l.lostWrite.ignored = false := rfl
@[simp] theorem Link.lostWrite_acked (l : Link) : l.lostWrite.acked = false := rfl
@[simp] theorem Link.lostWrite_answer (l : Link) : l.lostWrite.answer = l.answer := rfl
@[simp] theorem Link.lostRead_sent (l : Link) (n : Nat) : (l.lostRead n).sent = List.replicate n 0xFF := rfl
@[simp] theorem Link.lostRead_answer (l : Link) (n : Nat) : (l.lostRead n).answer = l.answer := rfl
@[simp] theorem Link.lostRead_ignored (l : Link) (n : Nat) : (l.lostRead n).ignored = false := rfl

@[simp] theorem State.dozeFollows_blocks (h : Bool) : (s.dozeFollows h).blocks = s.blocks := by
  simp only [State.dozeFollows]; split_ifs <;> rfl

/-- The doze condition reads nothing that starting or stopping the doze timer moves. -/
@[simp] theorem State.dozeFollows_dozeCondition (h : Bool) : (s.dozeFollows h).dozeCondition = s.dozeCondition := by
  simp only [State.dozeFollows]; split_ifs <;> rfl

/-- An event that leaves the Link Port and the doze timer to R156. -/
theorem becomes_of_event {c : Instr} {s u : State} {f : State → State} (he : exec c s = .next (s.event f))
    (hm : s.supply.mode ≠ .retain) (hb : (f s).blocks = u.blocks) (hl : (f s).link = s.link)
    (hd : (f s).supply.dozeTimer = s.supply.dozeTimer) : Becomes c s u := by
  refine ⟨_, he, ?_, ?_, ?_⟩
  · simp [State.event, hm, hb]
  · simp [State.event, hm, hl]
  · simp only [State.event, if_neg hm, State.dozeTimed, State.dozeFollows_dozeCondition]
    rcases Bool.eq_false_or_eq_true (f s).dozeCondition with h1 | h1 <;>
      rcases Bool.eq_false_or_eq_true s.dozeCondition with h2 | h2 <;>
      simp [State.dozeFollows, h1, h2, hd, State.onSupply]

end Sys2Proof.Machine
end

