-- ==== Sys2Proof/Laws/Lookup.lean ====
section
/-! SUPPORT. What the searches of the tables find, in the terms of Safety.lean: the entry a survey number names, the lowest FREE
slot, overlaps, the range lookup, the grants that name an entry, and the pool's count after a record was written. -/

namespace Sys2Proof.Machine

variable (s : State)

/-! ## Searches by slot -/

theorem finRange_find?_eq_some {n : Nat} (p : Fin n → Bool) (i : Fin n) (h : p i = true) (hlt : ∀ j, j < i → p j = false) :
    (List.finRange n).find? p = some i := by
  rw [List.find?_eq_some_iff_append]
  refine ⟨h, (List.finRange n).take i, (List.finRange n).drop (i + 1), ?_, ?_⟩
  · have hi : (List.finRange n)[i.val]'(by simp) = i := by simp
    conv_lhs => rw [← List.take_append_drop i.val (List.finRange n)]
    rw [List.drop_eq_getElem_cons (by simp), hi]
  · intro j hj
    obtain ⟨k, hk, rfl⟩ := List.mem_take_iff_getElem.mp hj
    simp only [List.length_finRange, lt_inf_iff] at hk
    simp only [List.getElem_finRange, Bool.not_eq_true']
    exact hlt _ (by rw [Fin.lt_def]; simpa using hk.1)

theorem finRange_find?_eq_none {n : Nat} (p : Fin n → Bool) (h : ∀ j, p j = false) :
    (List.finRange n).find? p = none := by
  rw [List.find?_eq_none]; intro j _; simp [h j]

variable {s}

theorem Entry.live_iff (e : Entry) : e.live = true ↔ e.state ≠ .free := by simp [Entry.live]

theorem State.findSurvey_of_holds {i : Fin 64} {n : Nat} (h : s.holds i n) : s.findSurvey n = some i := by
  obtain ⟨-, hs, hn, hu⟩ := h
  apply finRange_find?_eq_some
  · simp [Entry.live, hs, hn]
  · intro j hj
    by_cases hf : (s.entry j).state = .free
    · simp [Entry.live, hf]
    · simp [hu j (ne_of_lt hj) hf]

theorem State.findSurvey_of_unheld {n : Nat} (h : s.unheld n) : s.findSurvey n = none := by
  apply finRange_find?_eq_none
  intro j
  by_cases hf : (s.entry j).state = .free
  · simp [Entry.live, hf]
  · simp [h j hf]

theorem State.findSurvey_isSome_of_held {n : Nat} (h : ¬ s.unheld n) : (s.findSurvey n).isSome = true := by
  simp only [State.unheld, not_forall, not_not] at h
  obtain ⟨j, hf, hn⟩ := h
  simp only [State.findSurvey, List.find?_isSome]
  exact ⟨j, by simp [slotList], by simp [Entry.live, hf, hn]⟩

theorem State.lowestFree_of_isLowestFree {i : Fin 64} (h : s.isLowestFree i) : s.lowestFree = some i := by
  apply finRange_find?_eq_some
  · simp [h.1]
  · intro j hj; simp [h.2 j hj]

theorem State.lowestFree_of_full (h : ∀ i, (s.entry i).state ≠ .free) : s.lowestFree = none := by
  apply finRange_find?_eq_none
  intro j; simp [h j]

theorem State.lowestFree_isSome (h : ∃ i, (s.entry i).state = .free) : s.lowestFree.isSome = true := by
  obtain ⟨i, hi⟩ := h
  simp only [State.lowestFree, List.find?_isSome]
  exact ⟨i, by simp [slotList], by simp [hi]⟩

/-! ## Grants -/

theorem State.named_iff {i : Fin 64} : s.named i = true ↔ s.hasGrant i := by
  simp only [State.named, State.hasGrant, List.any_eq_true]
  constructor
  · rintro ⟨g, hg, hn⟩
    obtain ⟨k, hk, rfl⟩ := List.mem_iff_getElem.mp hg
    simp only [Vector.length_toList] at hk
    simp only [Vector.getElem_toList] at hn
    cases hs : s.grants.slots[k] with
    | none => simp [hs, Grant.names] at hn
    | some g =>
      rw [hs] at hn
      exact ⟨⟨k, hk⟩, g, by simpa using hs, by simpa [Grant.names] using hn⟩
  · rintro ⟨k, g, hk, hg⟩
    exact ⟨some g, by rw [← hk]; simp, by simp [Grant.names, hg]⟩

theorem State.not_named {i : Fin 64} (h : ¬ s.hasGrant i) : s.named i = false := by
  rw [← State.named_iff] at h; simpa using h

theorem State.outstanding_eq_zero {i : Fin 64} (h : ¬ s.hasGrant i) : s.outstanding i = 0 := by
  have := State.not_named h
  simp only [State.named, List.any_eq_false] at this
  simp only [State.outstanding, List.countP_eq_zero]
  exact this

theorem State.grantsEmpty_iff : s.grantsEmpty = true ↔ ∀ k : Fin 8, s.grants.slots[k] = none := by
  simp only [State.grantsEmpty, List.all_eq_true, Option.isNone_iff_eq_none]
  constructor
  · intro h k; exact h _ (by simp)
  · intro h g hg
    obtain ⟨k, hk, rfl⟩ := List.mem_iff_getElem.mp hg
    simp only [Vector.length_toList] at hk
    simpa using h ⟨k, hk⟩

/-! ## Windows -/

theorem Window.overlaps_iff (w v : Window) : w.overlaps v = true ↔ w.share v := by
  have hw : 0 < 2 ^ (w.cls + 4) := Nat.two_pow_pos _
  have hv : 0 < 2 ^ (v.cls + 4) := Nat.two_pow_pos _
  rw [Window.overlaps, Bool.and_eq_true, decide_eq_true_iff, decide_eq_true_iff]
  simp only [Window.share, Window.last, Window.length]
  constructor
  · rintro ⟨h1, h2⟩
    exact ⟨max w.base v.base, by omega, by omega, by omega, by omega⟩
  · rintro ⟨b, h1, h2, h3, h4⟩
    omega

theorem Window.aligned_iff (w : Window) : w.aligned = true ↔ w.fits := by
  simp [Window.aligned, Window.fits, Window.length]

theorem Window.contains_iff (w : Window) (b : Nat) : w.contains b = true ↔ w.base ≤ b ∧ b < w.base + 2 ^ (w.cls + 4) := by
  have hw : 0 < 2 ^ (w.cls + 4) := Nat.two_pow_pos _
  rw [Window.contains, Bool.and_eq_true, decide_eq_true_iff, decide_eq_true_iff]
  simp only [Window.last, Window.length]
  omega

theorem State.mem_liveWindows {i : Fin 64} {k : Nat} {w : Window} :
    (i, k, w) ∈ s.liveWindows ↔ (s.entry i).state ≠ .free ∧ (s.entry i).windows[k]? = some w := by
  simp only [State.liveWindows, List.mem_flatMap]
  constructor
  · rintro ⟨j, -, h⟩
    split at h
    · rename_i hl
      simp only [List.mem_map, Prod.mk.injEq, Prod.exists] at h
      obtain ⟨v, m, hm, rfl, rfl, rfl⟩ := h
      exact ⟨(Entry.live_iff _).mp hl, List.mem_zipIdx_iff_getElem?.mp hm⟩
    · simp at h
  · rintro ⟨hs, hw⟩
    refine ⟨i, by simp [slotList], ?_⟩
    rw [if_pos ((Entry.live_iff _).mpr hs)]
    simp only [List.mem_map, Prod.mk.injEq, Prod.exists]
    exact ⟨w, k, List.mem_zipIdx_iff_getElem?.mpr hw, by trivial⟩

theorem State.mem_liveWindows_of_mem {i : Fin 64} {w : Window} (hs : (s.entry i).state ≠ .free)
    (hw : w ∈ (s.entry i).windows) : ∃ k, (i, k, w) ∈ s.liveWindows := by
  obtain ⟨k, hk⟩ := List.mem_iff_getElem?.mp hw
  exact ⟨k, State.mem_liveWindows.mpr ⟨hs, hk⟩⟩

theorem State.overlapsLive_iff (w : Window) : s.overlapsLive w = true ↔ s.shares w := by
  simp only [State.overlapsLive, List.any_eq_true, State.shares, Window.overlaps_iff]
  constructor
  · rintro ⟨⟨i, k, v⟩, hm, hs⟩
    obtain ⟨h1, h2⟩ := State.mem_liveWindows.mp hm
    exact ⟨i, v, h1, List.mem_of_getElem? h2, hs⟩
  · rintro ⟨j, v, h1, h2, hs⟩
    obtain ⟨k, hk⟩ := State.mem_liveWindows_of_mem h1 h2
    exact ⟨(j, k, v), hk, hs⟩

/-! ## The range lookup (R18) -/

theorem State.lookup_of_coveredBy {b : Nat} {i : Fin 64} {k : Nat} {w : Window} (h : s.coveredBy b i k w) :
    s.lookup b = .covered i k w := by
  obtain ⟨hs, hw, h1, h2, hu⟩ := h
  have hm : (i, k, w) ∈ s.liveWindows := State.mem_liveWindows.mpr ⟨hs, hw⟩
  simp only [State.lookup]
  cases hf : s.liveWindows.find? (fun (_, _, v) => v.contains b) with
  | none =>
    rw [List.find?_eq_none] at hf
    exact absurd ((Window.contains_iff w b).mpr ⟨h1, h2⟩) (hf _ hm)
  | some r =>
    obtain ⟨j, l, v⟩ := r
    have hc := (Window.contains_iff v b).mp (by simpa using List.find?_some (p := fun (x : Fin 64 × Nat × Window) => x.2.2.contains b) hf)
    obtain ⟨h3, h4⟩ := State.mem_liveWindows.mp (List.mem_of_find?_eq_some hf)
    obtain ⟨rfl, rfl⟩ := hu j l v h3 h4 hc.1 hc.2
    rw [hw] at h4
    cases h4
    rfl

/-- The bases above a block among the live windows. -/
def State.basesAbove (s : State) (b : Nat) : List Nat :=
  (s.liveWindows.map fun (_, _, w) => w.base).filter fun c => decide (b < c)

theorem State.mem_basesAbove {b c : Nat} :
    c ∈ s.basesAbove b ↔ b < c ∧ ∃ j v, (s.entry j).state ≠ .free ∧ v ∈ (s.entry j).windows ∧ v.base = c := by
  simp only [State.basesAbove, List.mem_filter, List.mem_map, decide_eq_true_eq]
  constructor
  · rintro ⟨⟨⟨j, k, v⟩, hm, rfl⟩, hb⟩
    obtain ⟨h1, h2⟩ := State.mem_liveWindows.mp hm
    exact ⟨hb, j, v, h1, List.mem_of_getElem? h2, rfl⟩
  · rintro ⟨hb, j, v, h1, h2, rfl⟩
    obtain ⟨k, hk⟩ := State.mem_liveWindows_of_mem h1 h2
    exact ⟨⟨(j, k, v), hk, rfl⟩, hb⟩

theorem State.lookup_of_uncovered {b : Nat} (h : s.uncovered b) : s.lookup b = .uncovered (s.basesAbove b).min? := by
  simp only [State.lookup]
  cases hf : s.liveWindows.find? (fun (_, _, v) => v.contains b) with
  | none => rfl
  | some r =>
    obtain ⟨j, l, v⟩ := r
    have hc := (Window.contains_iff v b).mp (by simpa using List.find?_some (p := fun (x : Fin 64 × Nat × Window) => x.2.2.contains b) hf)
    obtain ⟨h3, h4⟩ := State.mem_liveWindows.mp (List.mem_of_find?_eq_some hf)
    exact absurd hc (h j v h3 (List.mem_of_getElem? h4))

theorem State.basesAbove_min?_eq_none {b : Nat}
    (h : ∀ j v, (s.entry j).state ≠ .free → v ∈ (s.entry j).windows → v.base ≤ b) : (s.basesAbove b).min? = none := by
  rw [List.min?_eq_none_iff, List.eq_nil_iff_forall_not_mem]
  intro c hc
  obtain ⟨hb, j, v, h1, h2, rfl⟩ := State.mem_basesAbove.mp hc
  exact absurd (h j v h1 h2) (by omega)

theorem State.basesAbove_min?_eq_some {b c : Nat}
    (hm : ∃ j v, (s.entry j).state ≠ .free ∧ v ∈ (s.entry j).windows ∧ v.base = c) (hb : b < c)
    (h : ∀ j v, (s.entry j).state ≠ .free → v ∈ (s.entry j).windows → b < v.base → c ≤ v.base) :
    (s.basesAbove b).min? = some c := by
  rw [List.min?_eq_some_iff]
  refine ⟨State.mem_basesAbove.mpr ⟨hb, hm⟩, ?_⟩
  intro d hd
  obtain ⟨hb', j, v, h1, h2, rfl⟩ := State.mem_basesAbove.mp hd
  exact h j v h1 h2 hb'

/-! ## The pool -/

theorem sum_map_set {α : Type} (f : α → Nat) : ∀ (l : List α) (i : Nat) (h : i < l.length) (a : α),
    ((l.set i a).map f).sum + f l[i] = (l.map f).sum + f a
  | [], _, h, _ => absurd h (by simp)
  | b :: l, 0, _, a => by simp [List.set]; omega
  | b :: l, i + 1, h, a => by
    have := sum_map_set f l i (by simpa using h) a
    simp only [List.set_cons_succ, List.map_cons, List.sum_cons, List.getElem_cons_succ]
    omega

theorem State.heldSlots_setEntry (i : Fin 64) (e : Entry) :
    (s.setEntry i e).heldSlots + (s.entry i).windows.length = s.heldSlots + e.windows.length := by
  have := sum_map_set (fun e : Entry => e.windows.length) s.table.entries.toList i.val (by simp) e
  simpa [State.heldSlots, State.setEntry, State.onTable, State.entry, Vector.toList_set] using this

theorem State.heldSlots_modifyEntry (i : Fin 64) (f : Entry → Entry) :
    (s.modifyEntry i f).heldSlots + (s.entry i).windows.length = s.heldSlots + (f (s.entry i)).windows.length :=
  State.heldSlots_setEntry i _

end Sys2Proof.Machine
end

