-- ==== Sys2Proof/Tests/Slice0.lean ====
section
/-! SUPPORT. The tests: ill-formed commands refused by WellFormed, single steps with the values of the manual's worked sequences
(section 11), and for every statement with hypotheses a witness that meets them. -/

open Sys2Proof Sys2Proof.Machine

namespace Sys2Proof.Tests

/-! ## Ill-formed commands -/

theorem test_long_payload_is_ill_formed : (Instr.seal (List.replicate 81 0)).wellFormed = false := by decide
theorem test_sound_frame_is_no_malformed : (Instr.malformed [0x06, 0x00]).wellFormed = false := by decide
theorem test_empty_write_is_no_malformed : (Instr.malformed []).wellFormed = false := by decide
theorem test_table_code_is_no_unknown : (Instr.unknown 0x41 [0, 0]).wellFormed = false := by decide
theorem test_seven_data_bytes_are_ill_formed :
    (Instr.readComplete true true true (List.replicate 7 0)).wellFormed = false := by decide
theorem test_longest_payload_is_well_formed : (Instr.restore (List.replicate 80 0)).wellFormed = true := by decide

/-! ## Single steps of the worked sequences (section 11) -/

/-- The state after a command. -/
def after (c : Instr) (s : State) : State :=
  match exec c s with
  | .next t => t
  | .fault _ | .refused _ => s

/-- The outcome and the payload being formed after a command. -/
def answers (c : Instr) (s : State) : Option (Code × List Byte) := (after c s).link.forming.map fun a => (a.code, a.payload)

/-- Section 11.1: outside power, AMPLE, READY with the target ON, CALM, every entry FREE, generations 5, 2 and 0. -/
def outsidePower : State :=
  let s := State.reset
  { s with
    table := { s.table with mediaLimit := 244190645, policy := .deny },
    grants := { s.grants with generations := (s.grants.generations.set 0 5).set 1 2 },
    seq := { s.seq with state := .ready, target := .on, phase := none },
    gauge := { s.gauge with q := 2400000, estimatePending := false },
    supply := { s.supply with present := true, level := .ample } }

/-- Survey 410 in slot 0, OPEN with its two windows of class 14 (section 11.1). -/
def survey410 : Entry :=
  { Entry.cleared with
    state := .opened, number := some 410, windows := [⟨2097152, 14⟩, ⟨2359296, 14⟩], opened := some 0 }

/-- Section 11.1 with survey 410 in place. -/
def mapped : State := outsidePower.setEntry 0 survey410

/-- "SCARP-E". -/
def scarpE : List Byte := [0x53, 0x43, 0x41, 0x52, 0x50, 0x2D, 0x45]

/-- Section 11.1, row 1. -/
theorem test_open_answers_slot_and_pool :
    answers (.openSurvey (be2 410 ++ be4 2097152 ++ [14, 7] ++ scarpE)) outsidePower = some (.ok, [0, 191]) := by decide
/-- Section 11.1, row 3. -/
theorem test_split_at_the_window_end :
    answers (.checkWrite (be4 2359200 ++ be2 300)) mapped = some (.split, [0, 0, 96, 0, 0, 0, 0, 0]) := by decide
/-- Section 11.1, row 4: tag 0x30, timeout 2000. -/
theorem test_grant_takes_tag_30 :
    answers (.checkWrite (be4 2359200 ++ be2 96)) mapped = some (.granted, [0, 0, 96, 0x30, 0, 0, 0x07, 0xD0]) := by decide
/-- Section 11.1, row 8. -/
theorem test_unmapped_is_denied :
    answers (.checkWrite (be4 2621440 ++ be2 60)) mapped = some (.denied, [3, 0, 0, 0, 0xFF, 0, 0, 0]) := by decide
/-- Section 11.3: one period at −480 mA from 30,050 µAh. -/
theorem test_period_takes_33_microamp_hours :
    let t := after (.periodEnd (BitVec.ofInt 16 (-4800)) 3420)
      { outsidePower with gauge := { outsidePower.gauge with q := 30050, timer := some 0 } }
    t.gauge.q = 30017 ∧ t.gauge.residue = -1200000 := by decide
/-- Section 11.4: the estimate at 3,900 mV. -/
theorem test_estimate_at_3900_millivolts :
    let t := after (.periodEnd 0 3900) (State.reset.onGauge fun g => { g with timer := some 0 })
    t.gauge.q = 2400000 ∧ t.gauge.p = 705 ∧ t.supply.level = .ample := by decide
/-- Section 11.2: the impact sample (−900, 1,800, 1,100). -/
theorem test_impact_sample_of_the_fall :
    readSample 77 1536 [0xC7, 0xC0, 0x70, 0x80, 0x44, 0xC0] =
      some { x := -900, y := 1800, z := 1100, m2 := 5260000, cls := .impact } := by decide
/-- Section 11.2: peak 2293. -/
theorem test_peak_is_2293 : integerRoot 5260000 = 2293 := by decide
/-- Section 11.3: one minute to the reserve. -/
theorem test_one_minute_to_reserve : timeToReserve (-480000) 29984 20000 = 1 := by decide

/-! ## States for the witnesses -/

/-- Survey 410 in slot 0 in a given state, with its mark. -/
def entryIn (st : EntryState) (verify : Bool) : State :=
  outsidePower.setEntry 0 { survey410 with state := st, verify := verify, sealed := if st = .sealed then some 0 else none }

/-- Survey 410 in a given state with one grant in slot 0, tag 0x28, on the last 96 blocks of its first window. -/
def grantedIn (st : EntryState) (verify : Bool) : State :=
  (entryIn st verify).setGrant 0
    (some { tag := 40, entry := some 0, window := 0, first := 2359200, count := 96, remaining := 0 })

/-- The battery alone, AMPLE, the sequencer OFF with the target OFF: the doze condition holds and its timer is due. -/
def dozy : State :=
  let s := outsidePower
  { s with
    seq := { s.seq with state := .off, target := .off }, supply := { s.supply with present := false, dozeTimer := some 0 } }

/-- The part in DOZE. -/
def dozing : State := after .dozeTimerExpiry dozy

/-- The part in RETAIN. -/
def retained : State := after .enterRetain mapped

/-- The part in RETAIN with its store lost. -/
def lost : State := after .retainedContentsLoss retained

/-- LCLR_N low. -/
def cleared : State := after .linkClear mapped

/-- The Link Port in a given state. -/
def linkIn (st : LinkState) (s : State) : State :=
  s.onLink fun l => { l with state := st, forming := some (okAnswer []), ticked := true }

/-- The guard in a given state, with a read in flight. -/
def guardIn (st : GuardState) (run : Nat) : State :=
  mapped.onGuard fun g =>
    { g with
      state := st, run := run, transfer := .read, settle := if st = .settle then some 0 else none,
      misses := if st = .blind then 3 else 2, episode := { g.episode with isOpen := true } }

/-- The sequencer in a given state with a target and a phase timer. -/
def seqIn (st : SeqState) (target : Target) (phase : Timer) : State :=
  mapped.onSeq fun q => { q with state := st, target := target, phase := phase, waited := 0 }

/-- Section 11.1 with the sample timer and the gauge timer due. -/
def due : State :=
  (mapped.onGuard fun g => { g with sampleTimer := some 0 }).onGauge fun g => { g with timer := some 0 }

/-- LCLR_N has been low for a moment in a read of the part, whose rest is ignored. -/
def interrupted : State := after .linkClearRelease (after .linkClear (after (.addressMatch 0x2C .read) mapped))

/-- An answer is being formed, with no tick since its write ended. -/
def busy : State := after (.readClock []) mapped

/-- A second request waits behind that answer. -/
def held : State := after (.setTarget [0]) busy

/-- An address match in DOZE has been answered NAK. -/
def waking : State := after (.addressMatch 0x2C .write) dozing

/-- The pack alone at CRITICAL. -/
def flat (s : State) : State := s.onSupply fun p => { p with present := false, level := .critical }

/-- Six data bytes whose X axis is this many counts and whose other axes are 0. -/
def along (counts : Int) : List Byte := beSigned2 (16 * counts) ++ [0, 0, 0, 0]

/-- The sample those bytes give. -/
def sampleOf (counts : Int) (c : SampleClass) : Sample :=
  { x := counts, y := 0, z := 0, m2 := (counts * counts).toNat, cls := c }

/-- Samples on Ff and Fi, which are NORMAL, and just beyond each (R85). -/
theorem measured :
    (sampleOf 77 .normal).measures 77 1536 (along 77) ∧ (sampleOf 76 .low).measures 77 1536 (along 76) ∧
      (sampleOf 1536 .normal).measures 77 1536 (along 1536) ∧ (sampleOf 1537 .impact).measures 77 1536 (along 1537) := by
  refine ⟨?_, ?_, ?_, ?_⟩ <;>
    exact ⟨⟨_, _, _, _, _, _, [], rfl, by decide, by decide, by decide, by decide, by decide, by decide⟩, by decide,
      by decide, by decide, by decide⟩

theorem holds_410 (st : EntryState) (v : Bool) (h : st ≠ .free) : (entryIn st v).holds 0 410 := by
  refine ⟨by decide, ?_, by cases st <;> cases v <;> rfl, ?_⟩
  · cases st <;> cases v <;> first | exact absurd rfl h | decide
  · cases st <;> cases v <;> first | exact absurd rfl h | decide

theorem holds_410_granted (st : EntryState) (v : Bool) (h : st ≠ .free) : (grantedIn st v).holds 0 410 := holds_410 st v h

theorem granted_hasGrant (st : EntryState) (v : Bool) : (grantedIn st v).hasGrant 0 := ⟨0, _, rfl, rfl⟩

theorem ungranted (st : EntryState) (v : Bool) (i : Fin 64) : ¬ (entryIn st v).hasGrant i := by
  rintro ⟨k, g, h, -⟩
  have e : ∀ k : Fin 8, outsidePower.grants.slots[k] = none := by decide
  have h' : outsidePower.grants.slots[k] = some g := h
  rw [e k] at h'
  cases h'

theorem unheld_411 : mapped.unheld 411 := by unfold State.unheld; decide

theorem held_410 : ¬ mapped.unheld 410 := fun h => h 0 (by decide) (by decide)

theorem mapped_window {j : Fin 64} {v : Window} (hs : (mapped.entry j).state ≠ .free) (hv : v ∈ (mapped.entry j).windows) :
    v = ⟨2097152, 14⟩ ∨ v = ⟨2359296, 14⟩ := by
  have h0 : j = 0 := by
    by_contra h
    exact hs ((by decide : ∀ j, j ≠ 0 → (mapped.entry j).state = .free) j h)
  subst h0
  have e : (mapped.entry 0).windows = [⟨2097152, 14⟩, ⟨2359296, 14⟩] := by decide
  rw [e] at hv
  simpa using hv

theorem mapped_uncovered (b : Nat) (h : b < 2097152 ∨ 2621440 ≤ b) : mapped.uncovered b := by
  intro j v hs hv hb
  rcases mapped_window hs hv with rfl | rfl <;> simp at hb <;> omega

theorem mapped_covered (b : Nat) (h : 2097152 ≤ b) (h' : b < 2359296) : mapped.coveredBy b 0 0 ⟨2097152, 14⟩ := by
  refine ⟨by decide, by decide, h, by simpa using h', ?_⟩
  intro j l v hs hv h1 h2
  have h0 : j = 0 := by
    by_contra h
    exact hs ((by decide : ∀ j, j ≠ 0 → (mapped.entry j).state = .free) j h)
  subst h0
  have e : (mapped.entry 0).windows = [⟨2097152, 14⟩, ⟨2359296, 14⟩] := by decide
  rw [e] at hv
  match l with
  | 0 => exact ⟨rfl, rfl⟩
  | 1 => simp at hv; subst hv; simp at h1; omega
  | n + 2 => simp at hv

/-! ## Single steps of R94, R120, R195, R198 and R199: an old expiry, a stretched transfer, and transfers whose rest is ignored -/

theorem test_request_in_forming_is_stretched :
    held.seq.target = .on ∧ held.link.stretched = true ∧ held.link.acked = true ∧ (after .answerFormed held).link = held.link := by
  decide
theorem test_link_clear_ends_the_stretch :
    let t := after .linkClear held
    let u := after (.setTarget [0]) (after .linkClearRelease t)
    t.link.held = [] ∧ t.link.acked = false ∧ (after (.setTarget [0]) t).seq.target = .on ∧ u.seq.target = .off := by decide
theorem test_stretched_request_follows_the_tick :
    held.tick.pending = [.answerFormed, .setTarget [0]] ∧ held.tick.guard.sampleTimer = some 1 ∧
      (after (.setTarget [0]) (after .answerFormed (held.onLink Link.tick))).seq.target = .off := by decide

theorem test_impact_in_settle_outruns_the_old_expiry :
    let t := after (.readComplete true true true (along 1537)) (guardIn .settle 0)
    (after .settleTimerExpiry t).guard.state = .settle ∧ (after .settleTimerExpiry t).guard.settle = some 500 := by decide
theorem test_longer_cycle_delay_outruns_the_old_expiry :
    let t := after (.setParam [0x1C, 0, 0, 0, 9]) (seqIn .cycleWait .off (some 0))
    (after .cycleDelayExpiry t).seq.state = .cycleWait ∧ (after .cycleDelayExpiry t).seq.phase = some 9 := by decide
theorem test_waking_write_hands_on_no_request :
    let t := after (.setTarget [1]) waking
    t.seq.target = .off ∧ t.link.acked = false ∧ t.link.state = .idle ∧ t.link.forming = none := by decide
theorem test_interrupted_read_reads_the_released_line :
    let t := after (.answerRead 3) interrupted
    t.link.sent = [0xFF, 0xFF, 0xFF] ∧ t.link.ignored = false ∧ (after (.answerRead 3) t).link.sent = [0x22, 0x00, 0xFF] := by
  decide

/-! ## Witnesses: the hypotheses of each statement are met -/

theorem witness_EmptyQueueIsTheTick :
    mapped.pending = [] ∧ mapped.supply.mode ≠ .retain ∧ retained.pending = [] ∧ retained.supply.mode = .retain := by decide

theorem witness_BadFramesAndLengthsAreRefused :
    mapped.listens ∧ ([0x01] : List Byte).length < 2 ∧ (80 < (0x51 : Byte).toNat) ∧
      requestOf (.seal (List.replicate 81 0)) = some (0x18, List.replicate 81 0) ∧
      requestOf (.seal [1]) = some (0x18, [1]) ∧ fixedLength 0x18 = some 2 ∧ requestOf (.readStatus [0]) = some (0x01, [0]) ∧
      (∀ n, ([] : List Byte)[7]? = some n → ([] : List Byte).length ≠ 8 + n.toNat) := by
  refine ⟨⟨rfl, rfl, rfl, nofun, nofun⟩, by decide, by decide, rfl, rfl, by decide, rfl, ?_⟩
  simp

/-- The codes on either side of the table's ranges are unknown. -/
theorem witness_BadFramesAndLengthsAreRefused_codes :
    ∀ code ∈ ([0x00, 0x08, 0x0F, 0x1E, 0x1F, 0x23, 0x2F, 0x42] : List Byte),
      ¬ (0x01 ≤ code.toNat ∧ code.toNat ≤ 0x07) ∧ ¬ (0x10 ≤ code.toNat ∧ code.toNat ≤ 0x1D) ∧
        ¬ (0x20 ≤ code.toNat ∧ code.toNat ≤ 0x22) ∧ code ≠ 0x30 ∧ code ≠ 0x38 ∧ code ≠ 0x39 ∧ code ≠ 0x40 ∧ code ≠ 0x41 := by
  decide

/-- A request, a refused write and a read; each mode, the line low, FORMING, and the two transfers whose rest is ignored. -/
theorem witness_TransfersOutsideRunTakeNoRequest :
    endsTransfer (.readClock []) ∧ endsTransfer (.malformed [1]) ∧ endsTransfer (.unknown 0x42 []) ∧
      endsTransfer .emptyWrite ∧ endsTransfer (.answerRead 4) ∧ retained.supply.mode = .retain ∧
      cleared.supply.mode ≠ .retain ∧ cleared.link.ignored = false ∧ cleared.link.state ≠ .waking ∧
      cleared.pins.lclrN = false ∧ dozing.supply.mode = .doze ∧ dozing.link.ignored = false ∧
      dozing.link.state ≠ .waking ∧ dozing.pins.lclrN = true ∧ waking.supply.mode = .run ∧
      waking.link.state = .waking ∧ interrupted.supply.mode = .run ∧ interrupted.link.ignored = true ∧
      busy.supply.mode = .run ∧ busy.link.ignored = false ∧ busy.link.state = .forming ∧ busy.pins.lclrN = true ∧
      busy.link.waiting = none ∧ held.link.state = .forming ∧ held.link.waiting ≠ none :=
  ⟨.inl ⟨_, _, rfl⟩, .inr (.inl ⟨_, rfl, by decide⟩), .inr (.inr (.inl ⟨_, _, rfl, by decide⟩)),
    .inr (.inr (.inr (.inl rfl))), .inr (.inr (.inr (.inr ⟨_, rfl⟩))), by decide⟩

theorem witness_AddressByteIsJudged :
    retained.supply.mode = .retain ∧ mapped.supply.mode = .run ∧ mapped.link.address = 0x2C ∧ mapped.pins.lclrN = true ∧
      mapped.link.state ≠ .forming ∧ (linkIn .forming mapped).link.state = .forming ∧
      (linkIn .forming mapped).link.waiting = none ∧ dozing.supply.mode = .doze ∧ dozing.link.address = 0x2C ∧
      dozing.link.state = .idle ∧ (0x2D : BitVec 7) ≠ mapped.link.address ∧ cleared.pins.lclrN = false ∧
      held.link.state = .forming ∧ held.link.waiting ≠ none ∧ held.pins.lclrN = true := by decide

theorem witness_ReadsSendTheAnswerEmptyWritesKeepIt :
    mapped.listens ∧ mapped.link.answer = none ∧ (after .answerFormed (linkIn .forming mapped)).listens ∧
      (after .answerFormed (linkIn .forming mapped)).link.answer = some (okAnswer []) :=
  ⟨⟨rfl, rfl, rfl, nofun, nofun⟩, by decide, ⟨rfl, rfl, rfl, nofun, nofun⟩, by decide⟩

theorem witness_FormingEndsWithTheAnswer :
    mapped.supply.mode ≠ .retain ∧ (linkIn .forming mapped).link.state = .forming ∧
      (linkIn .forming mapped).link.ticked = true ∧ mapped.link.state ≠ .forming ∧ busy.link.state = .forming ∧
      busy.link.ticked = false := by decide

theorem witness_LinkClearAndWakingEndInIdle :
    mapped.supply.mode ≠ .retain ∧ (linkIn .waking dozy).link.state = .waking ∧ mapped.link.state ≠ .waking ∧
      mapped.link.held = [] ∧ held.link.held = [] ++ [.setTarget [0]] ∧ endsTransfer (.setTarget [0]) ∧
      held.supply.mode ≠ .retain ∧ held.pins.lclrN = true ∧ held.link.state = .forming ∧ held.link.waiting ≠ none :=
  ⟨by decide, rfl, by decide, rfl, rfl, .inl ⟨_, _, rfl⟩, by decide⟩

theorem witness_ClocksAreReadSetAndStepped :
    mapped.listens ∧ mapped.supply.storeValid = true ∧ mapped.clock.driveClock ≤ 4294967295 ∧
      (mapped.onClock (Clock.setDrive 4294967295)).clock.driveClock ≤ 4294967295 ∧ lost.supply.storeValid = false := by
  refine ⟨⟨rfl, rfl, rfl, nofun, nofun⟩, by decide, by decide, by decide, by decide⟩

theorem witness_StatusIsReported : State.reset.listens ∧ State.reset.highest 6 := by
  refine ⟨⟨rfl, rfl, rfl, nofun, nofun⟩, by intro c; cases c <;> decide, .inl ⟨.restarted, by decide, rfl⟩⟩

theorem witness_GuardAndMechanismAreReported :
    let s := mapped.onGuard fun g => { g with episode := { g.episode with peak := 12582912 } }
    s.listens ∧ 3547 * 3547 ≤ s.guard.episode.peak ∧ s.guard.episode.peak < (3547 + 1) * (3547 + 1) ∧
      s.guard.episode.peak ≤ 12582912 := by
  refine ⟨⟨rfl, rfl, rfl, nofun, nofun⟩, by decide, by decide, by decide⟩

theorem witness_GaugeAndGrantsAreReported :
    let s := mapped.onGauge fun g => { g with currents := [-3, -4] }
    mapped.listens ∧ mapped.gauge.currents = [] ∧ s.listens ∧ s.gauge.currents ≠ [] ∧
      (-3 : Int) = s.gauge.currents.sum.tdiv s.gauge.currents.length := by
  refine ⟨⟨rfl, rfl, rfl, nofun, nofun⟩, by decide, ⟨rfl, rfl, rfl, nofun, nofun⟩, by decide, by decide⟩

theorem witness_ParametersAreReadAndKept :
    mapped.listens ∧ ((0x01 : Byte), 244190645) ∈ mapped.parameterTable ∧ ((0x30 : Byte), 0) ∈ mapped.parameterTable ∧
      (∀ p ∈ mapped.parameterTable, p.1 ≠ 0x31 ∧ p.1 ≠ 0) ∧
      (after (.setParam [0x30, 0, 0, 0, 7]) mapped).parameterTable ≠ mapped.parameterTable ∧ mapped.seq.state ≠ .off ∧
      mapped.seq.state ≠ .cycleWait := by
  refine ⟨⟨rfl, rfl, rfl, nofun, nofun⟩, by decide, by decide, by decide, by decide, by decide, by decide⟩

/-- Bit 11 is refused, bits 10 and 15 are taken; the pending set's level before and after. -/
theorem witness_ClearAttentionRemovesTheNamed :
    State.reset.listens ∧ (0x08 : Byte).toNat / 8 % 16 ≠ 0 ∧ (0x87 : Byte).toNat / 8 % 16 = 0 ∧ mapped.highest 6 := by
  refine ⟨⟨rfl, rfl, rfl, nofun, nofun⟩, by decide, by decide, by intro c; cases c <;> decide, .inl ⟨.restarted, by decide, rfl⟩⟩

theorem witness_MaskDecidesTheLine :
    retained.supply.mode = .retain ∧ mapped.supply.mode ≠ .retain ∧ mapped.attention.mask ≤ 1 ∧
      ∀ m ∈ [1, 2, 3, 4, 5, 6, 7], (mapped.setParam .mask m).attention.mask = m := by decide

theorem witness_CausesAndCountsMoveByTheirRules :
    let c := Instr.clearAttention [0x80, 0x04]
    State.reset.isPending .restarted = true ∧ (after c State.reset).isPending .restarted = false ∧
      (guardIn .settle 0).isPending .settled = false ∧
      (after .settleTimerExpiry (guardIn .settle 0)).isPending .settled = true ∧
      State.reset.supply.lost = true ∧ (after c State.reset).supply.lost = false ∧
      (after (.coldStart true true) (after (.clearAttention [0x80, 0]) lost)).supply.lost = true ∧
      (after .secondStep mapped).clock ≠ mapped.clock ∧
      (after (.coldStart true true) (lost.onClock Clock.secondStep)).clock.runSeconds <
        (lost.onClock Clock.secondStep).clock.runSeconds := by decide

/-- The ends of the ranges, and the adjustments of Ff, Fi and the period. -/
theorem witness_SetParamSetsItsParameter :
    mapped.listens ∧ mapped.taken 0x11 4294967295 = some 1535 ∧ mapped.taken 0x12 0 = some 78 ∧
      mapped.taken 0x20 149 = some 100 ∧ mapped.taken 0x30 8 = some 7 ∧
      (seqIn .off .off none).taken 0x18 0 = some 10 ∧ (seqIn .off .off none).taken 0x1C 10001 = some 10000 ∧
      (seqIn .off .off none).seq.state = .off ∧ (seqIn .cycleWait .off (some 5)).seq.state = .cycleWait ∧
      mapped.taken 0x01 2621439 = some 2621439 ∧ ∀ v ∈ (mapped.entry 0).windows, v.base + 2 ^ (v.cls + 4) - 1 ≤ 2621439 := by
  refine ⟨⟨rfl, rfl, rfl, nofun, nofun⟩, ?_⟩
  decide

theorem witness_SetParamRefusalsAndTheCycleDelay :
    mapped.listens ∧ mapped.taken 0x31 0 = none ∧ 0x18 ≤ (0x1C : Byte).toNat ∧ mapped.seq.state ≠ .off ∧
      mapped.seq.state ≠ .cycleWait ∧ (mapped.entry 0).state ≠ .free ∧ ⟨2359296, 14⟩ ∈ (mapped.entry 0).windows ∧
      max 15 2621438 < 2359296 + 2 ^ (14 + 4) - 1 ∧ (seqIn .cycleWait .off (some 5)).listens ∧
      min 10000 0 ≤ (seqIn .cycleWait .off (some 5)).seq.waited ∧
      (seqIn .cycleWait .off (some 5)).seq.waited < min 10000 1 := by
  refine ⟨⟨rfl, rfl, rfl, nofun, nofun⟩, by decide, by decide, by decide, by decide, by decide, by decide, by decide, ⟨rfl, rfl, rfl, nofun, nofun⟩, by decide,
    by decide⟩

/-- Every slot taken, by entries that hold no window. -/
def full : State := outsidePower.mapEntries fun _ e => { e with state := .sealed, number := some 9 }

/-- The pool used up: three windows in each of the 64 entries. -/
def drained : State := outsidePower.mapEntries fun _ _ => { survey410 with windows := List.replicate 3 ⟨2097152, 0⟩ }

theorem full_is_clear (w : Window) : ¬ full.shares w := by
  rintro ⟨j, v, -, hv, -⟩
  have e : ∀ j, (full.entry j).windows = [] := by decide
  rw [e j] at hv
  cases hv

/-- A window at the limit, one beyond it, one off its boundary, and windows beside and on a live one. -/
theorem witness_OpenSurveyIsRefused :
    mapped.listens ∧ (0 : Nat) = 0 ∧ 19 < (⟨0, 20⟩ : Window).cls ∧ ¬ mapped.unheld 410 ∧ mapped.unheld 411 ∧
      ¬ (⟨1, 0⟩ : Window).fits ∧ (⟨244190640, 0⟩ : Window).fits ∧ ¬ (⟨244190640, 0⟩ : Window).within mapped.table.mediaLimit ∧
      (⟨2621424, 0⟩ : Window).within mapped.table.mediaLimit ∧ mapped.shares ⟨2621424, 0⟩ ∧ ¬ mapped.shares ⟨2621440, 0⟩ ∧
      (∀ i, (full.entry i).state ≠ .free) ∧ full.unheld 411 ∧ 192 ≤ drained.heldSlots ∧
      (flat mapped).supply.present = false ∧ (flat mapped).supply.level ≠ .ample ∧ mapped.heldSlots < 192 := by
  refine ⟨⟨rfl, rfl, rfl, nofun, nofun⟩, rfl, by decide, held_410, unheld_411, by unfold Window.fits; decide, by unfold Window.fits; decide,
    by unfold Window.within; decide, by unfold Window.within; decide, (State.overlapsLive_iff _).mp (by decide), ?_,
    by decide, by unfold State.unheld; decide, by decide, by decide, by decide, by decide⟩
  rw [← State.overlapsLive_iff]; decide

theorem witness_OpenSurveyBuildsTheEntry :
    mapped.listens ∧ nat2 0x01 0x9B ≠ 0 ∧ (⟨2621440, 0⟩ : Window).cls ≤ 19 ∧ mapped.unheld (nat2 0x01 0x9B) ∧
      (⟨2621440, 0⟩ : Window).fits ∧ (⟨2621440, 0⟩ : Window).within mapped.table.mediaLimit ∧
      ¬ mapped.shares ⟨2621440, 0⟩ ∧ mapped.isLowestFree 1 ∧ (mapped.entry 1).windows = [] ∧ mapped.heldSlots < 192 ∧
      (mapped.supply.present = true ∨ mapped.supply.level = .ample) := by
  refine ⟨⟨rfl, rfl, rfl, nofun, nofun⟩, by decide, by decide, unheld_411, by unfold Window.fits; decide, by unfold Window.within; decide, ?_,
    by unfold State.isLowestFree; decide, by decide, by decide, by decide⟩
  rw [← State.overlapsLive_iff]; decide

/-- The entry OPEN and not OPEN; a free window, an overlapping one, and an entry that holds all it may. -/
theorem witness_AddWindowAppends :
    mapped.listens ∧ mapped.unheld 411 ∧ mapped.holds 0 410 ∧ (mapped.entry 0).state = .opened ∧
      (entryIn .closing false).holds 0 410 ∧ ((entryIn .closing false).entry 0).state ≠ .opened ∧
      mapped.shares ⟨2359296, 0⟩ ∧ ¬ mapped.shares ⟨2621440, 0⟩ ∧ (mapped.entry 0).windows.length < 8 ∧
      8 ≤ ((mapped.modifyEntry 0 fun e => { e with windows := List.replicate 8 ⟨0, 0⟩ }).entry 0).windows.length := by
  refine ⟨⟨rfl, rfl, rfl, nofun, nofun⟩, unheld_411, holds_410 .opened false (by decide), by decide, holds_410 .closing false (by decide),
    by decide, (State.overlapsLive_iff _).mp (by decide), ?_, by decide, by decide⟩
  rw [← State.overlapsLive_iff]; decide

/-- Two windows and no grant; a grant in the first window only; one window. -/
theorem witness_DropWindowTakesTheLast :
    mapped.listens ∧ mapped.unheld 411 ∧ mapped.holds 0 410 ∧ (mapped.entry 0).state = .opened ∧
      (¬ ∃ (k : Fin 8) (g : Grant), mapped.grants.slots[k] = some g ∧ g.entry = some 0 ∧
        g.window + 1 = (mapped.entry 0).windows.length) ∧
      (mapped.entry 0).windows = [⟨2097152, 14⟩] ++ [⟨2359296, 14⟩] ∧ mapped.heldSlots ≤ 192 ∧
      ((grantedIn .opened false).modifyEntry 0 Entry.dropWindow).listens ∧
      (((grantedIn .opened false).modifyEntry 0 Entry.dropWindow).entry 0).windows.length = 1 := by
  refine ⟨⟨rfl, rfl, rfl, nofun, nofun⟩, unheld_411, holds_410 .opened false (by decide), by decide, ?_, by decide, by decide, ⟨rfl, rfl, rfl, nofun, nofun⟩,
    by decide⟩
  rintro ⟨k, g, h, -⟩
  have e : ∀ k : Fin 8, mapped.grants.slots[k] = none := by decide
  rw [e k] at h
  cases h

theorem witness_EntriesAreReported :
    mapped.listens ∧ mapped.holds 0 (nat2 0x01 0x9A) ∧ nat2 0 0 = 0 ∧ mapped.unheld 411 ∧ (0 : Byte).toNat = (0 : Fin 64) ∧
      (mapped.entry 0).state ≠ .free ∧ (0x3F : Byte).toNat = (63 : Fin 64) ∧ (mapped.entry 63).state = .free ∧
      63 < (0x40 : Byte).toNat := by
  refine ⟨⟨rfl, rfl, rfl, nofun, nofun⟩, holds_410 .opened false (by decide), by decide, unheld_411, by decide, by decide, by decide, by decide,
    by decide⟩

/-- The first and the last block of a window and the blocks on either side; the ends of the slot ranges. -/
theorem witness_BlocksAndSlotsAreFound :
    mapped.listens ∧ mapped.coveredBy 2097152 0 0 ⟨2097152, 14⟩ ∧ mapped.coveredBy 2359295 0 0 ⟨2097152, 14⟩ ∧
      mapped.uncovered 2097151 ∧ mapped.uncovered 2621440 ∧ 64 ≤ (0x40 : Byte).toNat ∧ (0xFE : Byte).toNat ≤ 254 ∧
      (0xFF : Byte).toNat = 255 ∧ (∀ j : Fin 64, j < 0 → (mapped.entry j).state = .free) ∧
      ∀ j : Fin 64, (0 : Byte).toNat < j → (mapped.entry j).state = .free := by
  refine ⟨⟨rfl, rfl, rfl, nofun, nofun⟩, mapped_covered _ (by decide) (by decide), mapped_covered _ (by decide) (by decide),
    mapped_uncovered _ (by decide), mapped_uncovered _ (by decide), by decide, by decide, by decide, by decide, by decide⟩

theorem witness_RenameReplacesTheLabel :
    mapped.listens ∧ (List.replicate 16 (0 : Byte)).length ≤ 16 ∧ 16 < (List.replicate 17 (0 : Byte)).length ∧
      mapped.unheld 411 ∧ ∀ st, st ≠ .free → (entryIn st false).holds 0 410 :=
  ⟨⟨rfl, rfl, rfl, nofun, nofun⟩, by decide, by decide, unheld_411, fun st h => holds_410 st false h⟩

/-- Every live state, with and without a grant and the mark. -/
theorem witness_SealActsOnTheState :
    mapped.unheld 411 ∧ ∀ st v, st ≠ .free →
      (entryIn st v).listens ∧ (entryIn st v).holds 0 410 ∧ ((entryIn st v).entry 0).state = st ∧
        ((entryIn st v).entry 0).verify = v ∧ ¬ (entryIn st v).hasGrant 0 ∧ (grantedIn st v).listens ∧
        (grantedIn st v).holds 0 410 ∧ ((grantedIn st v).entry 0).state = st ∧ (grantedIn st v).hasGrant 0 := by
  refine ⟨unheld_411, fun st v h => ⟨⟨rfl, rfl, rfl, nofun, nofun⟩, holds_410 st v h, ?_, ?_, ungranted st v 0, ⟨rfl, rfl, rfl, nofun, nofun⟩,
    holds_410_granted st v h, ?_, granted_hasGrant st v⟩⟩ <;> cases st <;> cases v <;> rfl

theorem witness_VerifiedAndReopenActOnTheState :
    mapped.unheld 411 ∧ ∀ st v, st ≠ .free →
      (entryIn st v).holds 0 410 ∧ ((entryIn st v).entry 0).state = st ∧ ¬ (entryIn st v).hasGrant 0 ∧
        (grantedIn st v).hasGrant 0 :=
  ⟨unheld_411, fun st v h => ⟨holds_410 st v h, (witness_SealActsOnTheState.2 st v h).2.2.1, ungranted st v 0,
    granted_hasGrant st v⟩⟩

theorem witness_SetHoldExtendsAndNothingShortens :
    mapped.listens ∧ mapped.holds 0 410 ∧ mapped.unheld 411 ∧ nat2 0 0 = 0 ∧
      (let s := mapped.modifyEntry 0 fun e => { e with hold := some 4294967295 }
      (s.entry 0).state ≠ .free ∧ (s.entry 0).hold = some 4294967295 ∧
        ((after (.setHold [0x01, 0x9A, 0, 0, 0, 0]) s).entry 0).state ≠ .free) := by
  refine ⟨⟨rfl, rfl, rfl, nofun, nofun⟩, holds_410 .opened false (by decide), unheld_411, by decide, by decide⟩

/-- A hold one second ahead, and one that lapses at this second. -/
theorem witness_RetireFreesOrWaits :
    let ahead := mapped.modifyEntry 0 fun e => { e with hold := some 1 }
    let lapsed := mapped.modifyEntry 0 fun e => { e with hold := some 0 }
    ahead.listens ∧ (∃ d, (ahead.entry 0).hold = some d ∧ ahead.clock.runSeconds < d) ∧
      (¬ ∃ d, (lapsed.entry 0).hold = some d ∧ lapsed.clock.runSeconds < d) ∧
      (∀ st v, st ≠ .free → (entryIn st v).holds 0 410 ∧ (grantedIn st v).holds 0 410 ∧ (grantedIn st v).hasGrant 0 ∧
        ¬ (entryIn st v).hasGrant 0 ∧ ((entryIn st v).entry 0).hold = none) := by
  refine ⟨⟨rfl, rfl, rfl, nofun, nofun⟩, ⟨1, by decide, by decide⟩, ?_, fun st v h => ⟨holds_410 st v h, holds_410_granted st v h,
    granted_hasGrant st v, ungranted st v 0, by cases st <;> cases v <;> rfl⟩⟩
  rintro ⟨d, h, h'⟩
  have e : ((mapped.modifyEntry 0 fun e => { e with hold := some 0 }).entry 0).hold = some 0 := by decide
  rw [e] at h
  cases h
  exact absurd h' (by decide)

/-- Lists that fail at index 0 and at index 1 for each reason, and lists that pass. -/
theorem witness_RestoreRebuildsOrRefuses :
    mapped.listens ∧ mapped.unheld 411 ∧ ¬ mapped.unheld 410 ∧ ¬ (⟨1, 0⟩ : Window).fits ∧ (⟨0, 0⟩ : Window).fits ∧
      (⟨0, 0⟩ : Window).within mapped.table.mediaLimit ∧ ¬ (⟨244190640, 0⟩ : Window).within mapped.table.mediaLimit ∧
      mapped.shares ⟨2621424, 0⟩ ∧ ¬ mapped.shares ⟨0, 0⟩ ∧ (⟨0, 0⟩ : Window).share ⟨0, 0⟩ ∧ mapped.isLowestFree 1 ∧
      (mapped.entry 1).windows = [] ∧ mapped.heldSlots + 8 ≤ 192 ∧ 192 < drained.heldSlots + 1 ∧
      ∀ i, (full.entry i).state ≠ .free := by
  refine ⟨⟨rfl, rfl, rfl, nofun, nofun⟩, unheld_411, held_410, by unfold Window.fits; decide, by unfold Window.fits; decide,
    by unfold Window.within; decide, by unfold Window.within; decide, (State.overlapsLive_iff _).mp (by decide), ?_,
    ⟨0, by decide, by decide, by decide, by decide⟩, by unfold State.isLowestFree; decide, by decide, by decide, by decide,
    by decide⟩
  rw [← State.overlapsLive_iff]; decide

/-- A range that ends on the last block of its window and one that passes it; a gap that ends at a base, and the gap above. -/
theorem witness_RangesAreClassified :
    mapped.listens ∧ mapped.coveredBy 2359200 0 0 ⟨2097152, 14⟩ ∧ 2359200 + 96 - 1 ≤ 2097152 + 2 ^ (14 + 4) - 1 ∧
      2097152 + 2 ^ (14 + 4) - 1 < 2359200 + 97 - 1 ∧ ((entryIn .closing true).entry 0).state ≠ .opened ∧
      mapped.table.mediaLimit < 244190646 ∧ mapped.uncovered 2097151 ∧
      (⟨2097152, 14⟩ ∈ (mapped.entry 0).windows) ∧
      (∀ j v, (mapped.entry j).state ≠ .free → v ∈ (mapped.entry j).windows → 2097151 < v.base → 2097152 ≤ v.base) ∧
      2097152 ≤ 2097151 + 2 - 1 ∧ 2097151 + 1 - 1 < 2097152 ∧ mapped.table.policy = .deny ∧ mapped.uncovered 244190645 ∧
      (∀ j v, (mapped.entry j).state ≠ .free → v ∈ (mapped.entry j).windows → v.base ≤ 244190645) ∧
      mapped.table.mediaLimit < 244190645 + 2 - 1 := by
  refine ⟨⟨rfl, rfl, rfl, nofun, nofun⟩, mapped_covered _ (by decide) (by decide), by decide, by decide, by decide, by decide,
    mapped_uncovered _ (by decide), by decide, ?_, by decide, by decide, by decide, mapped_uncovered _ (by decide), ?_,
    by decide⟩
  · intro j v hs hv _
    rcases mapped_window hs hv with rfl | rfl <;> decide
  · intro j v hs hv
    rcases mapped_window hs hv with rfl | rfl <;> decide

/-- A range that ends on its window's last block, one in a gap under ALLOW that ends before a base; each hold, and none. -/
theorem witness_WritesAreHeldOrGranted :
    let allowing := mapped.onTable fun t => { t with policy := .allow }
    mapped.mayWrite 2359200 96 (some 0) 0 ∧ allowing.mayWrite 2097151 1 none 0 ∧ (guardIn .settle 0).holdsFor 4 ∧
      (flat mapped).holdsFor 5 ∧ (seqIn .draining .off none).holdsFor 6 ∧ (∀ reason, ¬ mapped.holdsFor reason) ∧
      mapped.grants.slots[(0 : Fin 8)] = none ∧ ∀ k : Fin 8, (mapped.onGrants fun t =>
        { t with slots := Vector.replicate 8 (some ⟨0, none, 0, 0, 1, 1⟩) }).grants.slots[k] ≠ none := by
  refine ⟨⟨by decide, by decide, .inl ⟨0, _, rfl, mapped_covered _ (by decide) (by decide), by decide, by decide⟩⟩,
    ⟨by decide, by decide, .inr ⟨rfl, rfl, mapped_uncovered _ (by decide), by decide, by decide, ?_⟩⟩,
    by unfold State.holdsFor; decide, by unfold State.holdsFor; decide, by unfold State.holdsFor; decide, ?_, by decide,
    by decide⟩
  · intro j v hs hv _
    rcases mapped_window hs hv with rfl | rfl <;> decide
  · intro reason
    unfold State.holdsFor
    have h1 : mapped.guard.state = .calm := by decide
    have h2 : mapped.supply.level = .ample := by decide
    have h3 : mapped.seq.state = .ready := by decide
    simp [h1, h2, h3]

/-- The tag of the slot and its neighbour; a grant that names an entry, one that names none, and a free slot. -/
theorem witness_DonesAndExpiriesRemoveGrants :
    let s := grantedIn .closing false
    let u := s.setGrant 0 (some { tag := 40, entry := none, window := 0, first := 0, count := 1, remaining := 1 })
    s.listens ∧ Fin.ofNat 8 (0x28 : Byte).toNat = 0 ∧ (∃ g, s.grants.slots[(0 : Fin 8)] = some g ∧ g.tag = 40 ∧ g.entry = some 0 ∧ g.remaining = 0) ∧
      (∃ g, u.grants.slots[(0 : Fin 8)] = some g ∧ g.tag = 40 ∧ g.entry = none ∧ g.remaining ≠ 0) ∧ s.grants.slots[(1 : Fin 8)] = none ∧
      (0x01 : Byte).toNat ≤ 1 ∧ 1 < (0x02 : Byte).toNat := by
  refine ⟨⟨rfl, rfl, rfl, nofun, nofun⟩, by decide, ⟨_, rfl, rfl, rfl, rfl⟩, ⟨_, rfl, rfl, rfl, by decide⟩, by decide, by decide, by decide⟩

theorem witness_GenerationsCountGrants :
    (after (.checkWrite (be4 2359200 ++ be2 96)) mapped).grants.generations[(0 : Fin 8)] ≠
        mapped.grants.generations[(0 : Fin 8)] ∧
      (after (.coldStart true true) lost).grants.generations[(0 : Fin 8)] ≠ lost.grants.generations[(0 : Fin 8)] := by
  decide

theorem witness_SamplingAndSettlingRunOnTimers :
    due.supply.mode ≠ .retain ∧ due.guard.sampleTimer = some 0 ∧ due.guard.transfer = .none ∧
      dozing.guard.sampleTimer ≠ some 0 ∧ dozing.supply.mode ≠ .retain ∧ mapped.guard.sampleTimer ≠ some 0 ∧
      (after .sampleTimerExpiry due).guard.transfer = .setup ∧ (guardIn .settle 0).guard.state = .settle ∧
      (guardIn .settle 0).guard.settle = some 0 ∧ mapped.guard.settle ≠ some 0 := by decide

/-- Each kind of miss, before the third, at the third and in BLIND. -/
theorem witness_ThreeMissesBlind :
    let late := due.onGuard fun g => { g with transfer := .setup }
    late.guard.sampleTimer = some 0 ∧ late.guard.transfer ≠ .none ∧ late.guard.misses < 2 ∧
      (true && true && true && false) = false ∧ (guardIn .falling 0).guard.transfer = .read ∧
      (guardIn .falling 0).guard.state ≠ .blind ∧ 2 ≤ (guardIn .falling 0).guard.misses ∧
      (List.replicate 5 (0 : Byte)).length < 6 ∧ (guardIn .blind 0).guard.state = .blind ∧
      (guardIn .blind 0).supply.mode ≠ .retain := by decide

/-- The axes at both ends of their range; `measured` gives a sample of each class, and BLIND is a state to take it in. -/
theorem witness_SamplesAreMeasuredAndTaken :
    (guardIn .calm 0).guard.transfer = .read ∧ 16 * (-2048 : Int) ≤ ((0x80 : Byte) ++ (0x00 : Byte)).toInt ∧
      ((0x7F : Byte) ++ (0xFF : Byte)).toInt < 16 * 2047 + 16 ∧
      (guardIn .calm 0).guard.ff = 77 ∧ (guardIn .calm 0).guard.fi = 1536 ∧ (guardIn .blind 0).guard.state = .blind ∧
      (guardIn .blind 0).guard.transfer = .read ∧ (guardIn .blind 0).guard.run = 0 ∧ 1 < (guardIn .blind 0).guard.nf ∧
      (guardIn .watch 10).guard.run + 1 < (guardIn .watch 10).guard.nf ∧
      (guardIn .falling 11).guard.nf ≤ (guardIn .falling 11).guard.run + 1 := by decide

theorem witness_KnocksAndFallsMarkEntries :
    (guardIn .watch 11).guard.state = .watch ∧ (guardIn .watch 11).guard.transfer = .read ∧
      (guardIn .watch 11).guard.nf ≤ (guardIn .watch 11).guard.run + 1 ∧ (guardIn .settle 11).guard.state = .settle ∧
      (guardIn .watch 11).guard.ff = 77 ∧ (guardIn .watch 11).guard.fi = 1536 ∧
      ((guardIn .calm 0).setParam .nf 1).guard.nf ≤ 1 := by decide

theorem witness_TargetIsSet :
    mapped.listens ∧ 1 < (0x02 : Byte).toNat ∧ (0x01 : Byte).toNat ≤ 1 ∧ (seqIn .off .off none).seq.state = .off ∧
      (flat (seqIn .off .off none)).supply.level = .critical ∧ (seqIn .off .off none).guard.state = .calm ∧
      mapped.seq.state = .ready ∧ (∀ k : Fin 8, mapped.grants.slots[k] = none) ∧
      (grantedIn .opened false).grants.slots[(0 : Fin 8)] ≠ none ∧ (grantedIn .opened false).seq.state = .ready ∧
      (seqIn .draining .off none).seq.state = .draining ∧ (seqIn .cycleWait .off (some 1)).seq.state = .cycleWait := by
  refine ⟨⟨rfl, rfl, rfl, nofun, nofun⟩, ?_⟩
  decide

theorem witness_PhasesFollowInOrder :
    (∀ st ∈ [SeqState.powering, .spinning, .unloading, .stopping, .cycleWait],
      (seqIn st .on (some 0)).seq.state = st ∧ (seqIn st .on (some 0)).seq.phase = some 0 ∧
        (seqIn st .on (some 0)).supply.mode ≠ .retain) ∧
      (seqIn .powering .on (some 0)).pins.drdy = false ∧ (seqIn .powering .on (some 0)).offDemand = false ∧
      (seqIn .powering .off (some 0)).offDemand = true ∧ (after .drdyAsserted (seqIn .powering .on (some 0))).pins.drdy = true ∧
      (seqIn .stopping .on (some 0)).seq.cycleDelay ≠ 0 ∧ (seqIn .unloading .on (some 1)).seq.phase ≠ some 0 ∧
      ((seqIn .stopping .on (some 0)).onSeq fun q => { q with cycleDelay := 0 }).seq.cycleDelay = 0 := by decide

/-- Q on the threshold, on R_park and one below each, from every level; the arising and the ceasing. -/
theorem witness_PreconditionAndLevelAreJudged :
    (seqIn .off .on none).precondition = true ∧ (flat (seqIn .off .on none)).precondition = false ∧
      mapped.threshold = 30000 ∧ nextLevel .ample 30000 30000 20000 10000 false = .ample ∧
      nextLevel .ample 29999 30000 20000 10000 false = .low ∧ nextLevel .low 19999 30000 20000 10000 false = .critical ∧
      (mapped.onGauge fun g => { g with q := 19999 }).critical = false ∧
      ((mapped.onSupply fun p => { p with present := false }).onGauge fun g => { g with q := 19999 }).judgedLevel false =
        .critical ∧
      (flat dozing).critical = true ∧ (flat dozing).judgedLevel false = .ample ∧ (flat dozing).supply.mode = .doze ∧
      ((flat dozing).onSeq fun q => { q with target := .on }).seq.state = .off := by
  decide

theorem witness_ReadyLineMovesTheSequencer :
    (seqIn .spinning .on (some 5)).seq.state = .spinning ∧ (seqIn .spinning .on (some 5)).offDemand = false ∧
      (seqIn .spinning .off (some 5)).offDemand = true ∧ (seqIn .spinning .off (some 5)).grantsEmpty = true ∧
      ((grantedIn .opened false).onSeq fun q => { q with state := .spinning, target := .off }).grantsEmpty = false ∧
      mapped.seq.state = .ready ∧ mapped.supply.mode ≠ .retain := by decide

theorem witness_PeriodEndCountsCharge :
    due.supply.mode ≠ .retain ∧ due.gauge.timer = some 0 ∧ due.gauge.estimatePending = false ∧
      due.gauge.capacity ≠ 0 ∧ due.gauge.emptyRun < 2 ∧ due.gauge.fullRun < 7 ∧ due.gauge.slewCount ≤ 3 ∧
      due.gauge.currents.length ≤ 4 := by decide

/-- One millivolt below Vempty with no current, and Vfull with the taper current. -/
theorem witness_CorrectionsSetTheBound :
    let s := due.onGauge fun g => { g with emptyRun := 2, fullRun := 7 }
    s.supply.mode ≠ .retain ∧ s.gauge.timer = some 0 ∧ s.gauge.estimatePending = false ∧ s.gauge.vEmpty < s.gauge.vFull ∧
      (3299 : BitVec 16).toNat < s.gauge.vEmpty ∧ (0 : BitVec 16).toInt * s.gauge.scale ≤ 0 ∧ s.gauge.emptyRun = 2 ∧
      s.supply.present = true ∧ s.gauge.vFull ≤ (4150 : BitVec 16).toNat ∧
      (1000 : BitVec 16).toInt * s.gauge.scale ≤ (s.gauge.taper * 1000 : Nat) ∧ s.gauge.fullRun = 7 := by decide

theorem witness_ChargeIsEstimatedOrSet :
    let s := due.onGauge fun g => { g with estimatePending := true }
    s.supply.mode ≠ .retain ∧ s.gauge.timer = some 0 ∧ s.gauge.estimatePending = true ∧ mapped.gauge.timer ≠ some 0 ∧
      mapped.listens := by
  refine ⟨by decide, by decide, by decide, by decide, ⟨rfl, rfl, rfl, nofun, nofun⟩⟩

theorem witness_SupplyAndDozeChangeTheMode :
    mapped.supply.present ≠ false ∧ mapped.supply.mode = .run ∧ dozing.supply.present = false ∧ dozing.supply.mode = .doze ∧
      dozy.supply.mode = .run ∧ dozy.supply.present = false ∧ dozy.seq.state = .off ∧ dozy.grantsEmpty = true ∧
      dozy.guard.state = .calm ∧ dozy.link.state = .idle ∧ dozy.supply.dozeTimer = some 0 ∧
      mapped.supply.dozeTimer ≠ some 0 := by decide

theorem witness_RetainKeepsTheStore : mapped.supply.mode ≠ .retain ∧ retained.supply.mode = .retain := by decide

theorem witness_ColdStartValues : lost.supply.mode = .retain ∧ lost.supply.storeValid = false := by decide

/-- A retained table with an entry in RETIRING that a grant names, and one with a marked entry. -/
theorem witness_WarmStartKeepsTheStore :
    let s := after .enterRetain (grantedIn .retiring false)
    s.supply.mode = .retain ∧ s.supply.storeValid = true ∧ (s.entry 0).state = .retiring ∧
      (retained.entry 0).state ≠ .retiring ∧ retained.supply.storeValid = true := by decide

/-- Two states in RETAIN that differ in what RETAIN does not keep. -/
theorem witness_OnlyTheStoreReachesTheStart :
    let r := retained.onGauge fun g => { g with residue := 5, currents := [1] }
    r ≠ retained ∧ retained.supply.mode = .retain ∧ r.supply.mode = .retain ∧ retained.table = r.table ∧
      retained.grants = r.grants ∧ retained.clock = r.clock ∧ retained.parameterTable = r.parameterTable ∧
      retained.supply = r.supply ∧ retained.pins = r.pins ∧ retained.pending = r.pending ∧ retained.guard = r.guard ∧
      retained.seq = r.seq ∧ retained.gauge.q = r.gauge.q ∧ retained.gauge.s = r.gauge.s ∧ retained.gauge.p = r.gauge.p ∧
      retained.gauge.estimatePending = r.gauge.estimatePending ∧ retained.supply.storeValid = true ∧
      lost.supply.storeValid = false := by
  refine ⟨fun h => absurd (congrArg (fun s => s.gauge.residue) h) (by decide), rfl, rfl, rfl, rfl, rfl, rfl, rfl, rfl, rfl,
    rfl, rfl, rfl, rfl, rfl, rfl, by decide, by decide⟩

theorem witness_RestartBeginsAgain :
    (grantedIn .retiring false).listens ∧ ((grantedIn .retiring false).entry 0).state = .retiring ∧
      (grantedIn .opened false).hasGrant 0 ∧ (seqIn .spinning .on (some 1)).listens :=
  ⟨⟨rfl, rfl, rfl, nofun, nofun⟩, rfl, granted_hasGrant _ _, ⟨rfl, rfl, rfl, nofun, nofun⟩⟩

/-! ## Witnesses of the invariants: states in order, which step -/

theorem steps (s : State) : ∃ t, step s = .next t := by
  unfold step
  split
  · exact ⟨_, rfl⟩
  · rename_i c rest _
    cases c <;> exact ⟨_, rfl⟩

theorem outsidePower_free (i : Fin 64) : outsidePower.entry i = Entry.cleared :=
  (by decide : ∀ i, outsidePower.entry i = Entry.cleared) i

theorem mapped_grantsInOrder : mapped.grantsInOrder := by
  have others : ∀ i, (mapped.entry i).state = .free ∨ (mapped.entry i).state = .opened := by decide
  have slots : ∀ k : Fin 8, mapped.grants.slots[k] = none := by decide
  refine ⟨fun k g h => ?_, fun i h => ?_, fun i h => ?_, fun i h => ?_⟩
  · rw [slots k] at h; cases h
  all_goals exact absurd h (by rcases others i with e | e <;> rw [e] <;> decide)

theorem witness_TableStaysInOrder : mapped.tableInOrder ∧ mapped.grantsInOrder ∧ ∃ t, step mapped = .next t := by
  have others : ∀ i, i ≠ 0 → mapped.entry i = Entry.cleared := by decide
  have first : mapped.entry 0 = survey410 := by decide
  have win : ∀ (i : Fin 64) (k : Nat) (w : Window), (mapped.entry i).windows[k]? = some w →
      i = 0 ∧ (k = 0 ∧ w = ⟨2097152, 14⟩ ∨ k = 1 ∧ w = ⟨2359296, 14⟩) := by
    intro i k w h
    by_cases hi : i = 0
    · subst hi
      rw [first] at h
      match k with
      | 0 => exact ⟨rfl, .inl ⟨rfl, by simpa [survey410] using h.symm⟩⟩
      | 1 => exact ⟨rfl, .inr ⟨rfl, by simpa [survey410] using h.symm⟩⟩
      | n + 2 => simp [survey410] at h
    · rw [others i hi] at h
      simp [Entry.cleared] at h
  refine ⟨⟨?_, ?_, ?_, ?_, by decide, by decide⟩, mapped_grantsInOrder, steps _⟩
  · intro i
    by_cases hi : i = 0
    · subst hi
      rw [first]
      exact ⟨⟨410, rfl, by decide, by decide⟩, by decide, by decide, by decide, rfl, by decide, by decide, by decide, by decide,
        fun d h => by cases h⟩
    · rw [others i hi]; rfl
  · intro i j n hij h h'
    by_cases hi : i = 0
    · subst hi
      rw [others j (Ne.symm hij)] at h'
      cases h'
    · rw [others i hi] at h
      cases h
  · intro i w hw
    obtain ⟨k, hk⟩ := List.mem_iff_getElem?.mp hw
    rcases (win i k w hk).2 with ⟨-, rfl⟩ | ⟨-, rfl⟩ <;>
      exact ⟨by decide, by unfold Window.fits; decide, by unfold Window.within; decide⟩
  · intro i j k l w v h h' hs
    obtain ⟨rfl, hk⟩ := win i k w h
    obtain ⟨rfl, hl⟩ := win j l v h'
    refine ⟨rfl, ?_⟩
    obtain ⟨b, h1, h2, h3, h4⟩ := hs
    rcases hk with ⟨rfl, rfl⟩ | ⟨rfl, rfl⟩ <;> rcases hl with ⟨rfl, rfl⟩ | ⟨rfl, rfl⟩ <;>
      first | rfl | (simp at h1 h2 h3 h4; omega)

theorem witness_GrantsStayInOrder :
    (grantedIn .closing false).grantsInOrder ∧ ∃ t, step (grantedIn .closing false) = .next t := by
  have others : ∀ i, i ≠ 0 → ((grantedIn .closing false).entry i).state = .free := by decide
  have first : ((grantedIn .closing false).entry 0).state = .closing := by decide
  have slots : ∀ k : Fin 8, k ≠ 0 → (grantedIn .closing false).grants.slots[k] = none := by decide
  refine ⟨⟨?_, ?_, ?_, ?_⟩, steps _⟩
  · intro k g h
    by_cases hk : k = 0
    · subst hk
      have e : (grantedIn .closing false).grants.slots[(0 : Fin 8)] =
        some { tag := 40, entry := some 0, window := 0, first := 2359200, count := 96, remaining := 0 } := rfl
      rw [e] at h
      cases h
      refine ⟨by decide, by decide, by decide, fun _ => rfl, fun i h => ?_⟩
      have hi : i = 0 := by simpa using h.symm
      subst hi
      exact ⟨by decide, _, rfl, by decide, by decide⟩
    · rw [slots k hk] at h
      cases h
  all_goals
    intro i h
    by_cases hi : i = 0
    · subst hi
      first | exact .inl (granted_hasGrant _ _) | (rw [first] at h; cases h)
    · rw [others i hi] at h
      cases h

theorem witness_GuardStaysInOrder : mapped.guardInOrder ∧ ∃ t, step mapped = .next t :=
  ⟨by unfold State.guardInOrder Guard.inOrder; decide, steps _⟩

theorem witness_SequencerStaysInOrder : mapped.guardInOrder ∧ mapped.sequencerInOrder ∧ ∃ t, step mapped = .next t :=
  ⟨witness_GuardStaysInOrder.1, by unfold State.sequencerInOrder; decide, steps _⟩

theorem witness_GaugeStaysInOrder : State.reset.gauge.inOrder ∧ ∃ t, step State.reset = .next t :=
  ⟨by unfold Gauge.inOrder; decide, steps _⟩

theorem witness_ReserveStaysCovered : mapped.reserveInOrder ∧ ∃ t, step mapped = .next t :=
  ⟨by unfold State.reserveInOrder; decide, steps _⟩

theorem witness_DozeStaysInOrder : dozing.dozeInOrder ∧ ∃ t, step dozing = .next t :=
  ⟨by unfold State.dozeInOrder; decide, steps _⟩

end Sys2Proof.Tests
end

/-! The Survey Table's invariant: what keeps records in order (`Entry.Narrows`, `State.TableNarrows`), what may join the
table (`State.tableInOrder_setEntry`), and what every command does to it (`exec_keepsTable`). -/

namespace Sys2Proof.Machine

variable {s t u : State}

/-! ## Records in order -/

/-- What R1 asks of a live record. -/
structure Entry.Fields (e : Entry) : Prop where
  number : ∃ n, e.number = some n ∧ 1 ≤ n ∧ n ≤ 65535
  label : e.label.length ≤ 16
  windows_pos : 1 ≤ e.windows.length
  windows_le : e.windows.length ≤ 8
  opened : e.opened.isSome = true
  sealed : e.sealed.isSome = true ↔ e.state = .sealed
  issued : e.issued ≤ 65535
  written : e.written ≤ 4294967295
  jolts : e.jolts ≤ 255
  hold : ∀ d, e.hold = some d → d ≤ 4294967295

theorem Entry.inOrder_of_fields {e : Entry} (hs : e.state ≠ .free) (h : e.Fields) : e.inOrder := by
  rw [Entry.inOrder, if_neg hs]
  exact ⟨h.number, h.label, h.windows_pos, h.windows_le, h.opened, h.sealed, h.issued, h.written, h.jolts, h.hold⟩

theorem Entry.fields_of_inOrder {e : Entry} (hs : e.state ≠ .free) (h : e.inOrder) : e.Fields := by
  rw [Entry.inOrder, if_neg hs] at h
  obtain ⟨h1, h2, h3, h4, h5, h6, h7, h8, h9, h10⟩ := h
  exact ⟨h1, h2, h3, h4, h5, h6, h7, h8, h9, h10⟩

theorem Entry.eq_cleared {e : Entry} (h : e.inOrder) (hs : e.state = .free) : e = Entry.cleared := by
  rwa [Entry.inOrder, if_pos hs] at h

theorem Entry.inOrder_cleared : Entry.cleared.inOrder := by
  exact (if_pos (rfl : Entry.cleared.state = .free)).mpr rfl

/-! ## Records that take no new window and no new number -/

/-- The record stays in order, and it holds no survey number and no window that it did not hold before, each window at
its old index. -/
structure Entry.Narrows (e e' : Entry) : Prop where
  inOrder : e.inOrder → e'.inOrder
  number : e'.number = e.number ∨ e'.number = none
  windows : e'.windows <+: e.windows

theorem Entry.Narrows.refl (e : Entry) : e.Narrows e := ⟨id, .inl rfl, List.prefix_rfl⟩

theorem Entry.Narrows.trans {e e' e'' : Entry} (h : e.Narrows e') (h' : e'.Narrows e'') : e.Narrows e'' where
  inOrder := h'.inOrder ∘ h.inOrder
  number := by rcases h'.number with h1 | h1 <;> simp [h1, h.number]
  windows := h'.windows.trans h.windows

theorem Entry.narrows_cleared (e : Entry) : e.Narrows Entry.cleared :=
  ⟨fun _ => Entry.inOrder_cleared, .inr rfl, List.nil_prefix⟩

/-- A live record that keeps its number and stays live with its fields in their ranges. -/
theorem Entry.narrows_of_fields {e e' : Entry} (hs : e.state ≠ .free) (hs' : e'.state ≠ .free)
    (hf : e.Fields → e'.Fields) (hn : e'.number = e.number) (hw : e'.windows <+: e.windows) : e.Narrows e' :=
  ⟨fun h => Entry.inOrder_of_fields hs' (hf (Entry.fields_of_inOrder hs h)), .inl hn, hw⟩

section
variable {e : Entry} (hs : e.state ≠ .free)
include hs

theorem Entry.narrows_mark : e.Narrows e.mark :=
  Entry.narrows_of_fields hs hs (fun h => { h with }) rfl List.prefix_rfl

theorem Entry.narrows_unmark : e.Narrows e.unmark :=
  Entry.narrows_of_fields hs hs (fun h => { h with }) rfl List.prefix_rfl

theorem Entry.narrows_addWritten (n : Nat) : e.Narrows (e.addWritten n) :=
  Entry.narrows_of_fields hs hs (fun h => { h with written := Nat.min_le_left _ _ }) rfl List.prefix_rfl

theorem Entry.narrows_addIssued : e.Narrows e.addIssued :=
  Entry.narrows_of_fields hs hs (fun h => { h with issued := Nat.min_le_left _ _ }) rfl List.prefix_rfl

theorem Entry.narrows_jolt : e.Narrows e.jolt :=
  Entry.narrows_of_fields hs hs (fun h => { h with jolts := Nat.min_le_left _ _ }) rfl List.prefix_rfl

theorem Entry.narrows_doneEffect (result n : Nat) : e.Narrows (doneEffect result n e) := by
  unfold doneEffect
  split
  · exact Entry.narrows_addWritten hs n
  · exact Entry.narrows_mark hs

theorem Entry.narrows_relabel {label : List Byte} (hl : label.length ≤ 16) : e.Narrows (e.relabel label) :=
  Entry.narrows_of_fields hs hs (fun h => { h with label := hl }) rfl List.prefix_rfl

theorem Entry.narrows_extendHold {n : Nat} (hn : n ≤ 4294967295) : e.Narrows (e.extendHold n) := by
  refine Entry.narrows_of_fields hs hs (fun h => { h with hold := ?_ }) rfl List.prefix_rfl
  intro d hd
  cases he : e.hold with
  | none => simp_all [Entry.extendHold]
  | some d' => have := h.hold d' he; simp_all [Entry.extendHold]; omega

theorem Entry.narrows_dropWindow (hl : 1 < e.windows.length) : e.Narrows e.dropWindow := by
  refine Entry.narrows_of_fields hs hs (fun h => { h with windows_pos := ?_, windows_le := ?_ }) rfl
    (List.dropLast_prefix _)
  · simp [Entry.dropWindow]; omega
  · have := h.windows_le; simp [Entry.dropWindow]; omega

/-- A change of state between the live states other than SEALED. -/
theorem Entry.narrows_withState {st : EntryState} (hf : st ≠ .free) (h1 : e.state ≠ .sealed) (h2 : st ≠ .sealed) :
    e.Narrows (e.withState st) :=
  Entry.narrows_of_fields hs hf (fun h => { h with sealed := by simpa [Entry.withState, h1, h2] using h.sealed }) rfl
    List.prefix_rfl

theorem Entry.narrows_seal (stamp : Nat) : e.Narrows { e with state := .sealed, sealed := some stamp } :=
  Entry.narrows_of_fields hs (by simp) (fun h => { h with sealed := by simp }) rfl List.prefix_rfl

end

/-! ## The table as a whole -/

theorem State.heldSlots_eq_sum (s : State) : s.heldSlots = ∑ i, (s.entry i).windows.length := by
  have h : s.table.entries.toList = List.ofFn s.entry := by
    apply List.ext_getElem
    · simp
    · intro i h1 h2
      rw [List.getElem_ofFn, Vector.getElem_toList]
      rfl
  rw [State.heldSlots, h, List.map_ofFn, List.sum_ofFn]
  rfl

/-- No record of the table takes a new window or a new number, and the media limit stands. -/
structure State.TableNarrows (s t : State) : Prop where
  limit : t.table.mediaLimit = s.table.mediaLimit
  entry : ∀ i, (s.entry i).Narrows (t.entry i)

theorem State.TableNarrows.tableInOrder (h : s.TableNarrows t) (hs : s.tableInOrder) : t.tableInOrder := by
  obtain ⟨hentries, hnumbers, hwindows, hshare, hheld, hlimit⟩ := hs
  have number {i n} (hn : (t.entry i).number = some n) : (s.entry i).number = some n := by
    rcases (h.entry i).number with h1 | h1 <;> simp_all
  have window {i} {k : Nat} {w} (hw : (t.entry i).windows[k]? = some w) : (s.entry i).windows[k]? = some w := by
    obtain ⟨hk, rfl⟩ := List.getElem?_eq_some_iff.mp hw
    exact List.prefix_iff_getElem?.mp (h.entry i).windows k hk
  refine ⟨fun i => (h.entry i).inOrder (hentries i), ?_, ?_, ?_, ?_, h.limit ▸ hlimit⟩
  · intro i j n hij hi hj
    exact hnumbers i j n hij (number hi) (number hj)
  · intro i w hw
    rw [h.limit]
    exact hwindows i w ((h.entry i).windows.subset hw)
  · intro i j k l w v hw hv
    exact hshare i j k l w v (window hw) (window hv)
  · refine le_trans ?_ hheld
    rw [State.heldSlots_eq_sum, State.heldSlots_eq_sum]
    exact Finset.sum_le_sum fun i _ => (h.entry i).windows.length_le


theorem State.TableNarrows.of_table_eq (h : t.table = s.table) : s.TableNarrows t :=
  ⟨by rw [h], fun i => by rw [State.entry_congr h]; exact .refl _⟩

theorem State.TableNarrows.trans (h : s.TableNarrows t) (h' : t.TableNarrows u) : s.TableNarrows u :=
  ⟨h'.limit.trans h.limit, fun i => (h.entry i).trans (h'.entry i)⟩

theorem State.tableInOrder_of_table_eq (h : t.table = s.table) (hs : s.tableInOrder) : t.tableInOrder :=
  (State.TableNarrows.of_table_eq h).tableInOrder hs

theorem State.tableNarrows_setEntry {i : Fin 64} {e : Entry} (h : (s.entry i).Narrows e) :
    s.TableNarrows (s.setEntry i e) := by
  refine ⟨rfl, fun j => ?_⟩
  by_cases hj : j = i
  · subst hj; simpa using h
  · rw [s.entry_setEntry_ne hj]; exact .refl _

theorem State.tableNarrows_modifyEntry {i : Fin 64} {f : Entry → Entry} (h : (s.entry i).Narrows (f (s.entry i))) :
    s.TableNarrows (s.modifyEntry i f) :=
  State.tableNarrows_setEntry h

theorem State.tableNarrows_mapEntries {f : Fin 64 → Entry → Entry} (h : ∀ i, (s.entry i).Narrows (f i (s.entry i))) :
    s.TableNarrows (s.mapEntries f) :=
  ⟨by simp [State.mapEntries], fun i => by rw [State.entry_mapEntries]; exact h i⟩

theorem State.tableNarrows_clearEntry (s : State) (i : Fin 64) : s.TableNarrows (s.clearEntry i) :=
  State.tableNarrows_setEntry (Entry.narrows_cleared _)

/-! ## The custody of an entry -/

/-- An entry that a grant names is live (R29). -/
theorem State.live_of_hasGrant (hg : s.grantsInOrder) {i : Fin 64} (h : s.hasGrant i) : (s.entry i).state ≠ .free := by
  obtain ⟨hgrants, -, -, -⟩ := hg
  obtain ⟨k, g, hk, hi⟩ := h
  obtain ⟨-, -, -, -, hentry⟩ := hgrants k g hk
  rcases (hentry i hi).1 with h1 | h1 | h1 <;> simp [h1]

theorem State.grantsInOrder_of_eq (ht : t.table = s.table) (hg : t.grants = s.grants) (h : s.grantsInOrder) :
    t.grantsInOrder := by
  have he : t.entry = s.entry := funext fun i => State.entry_congr ht i
  simpa only [State.grantsInOrder, State.hasGrant, he, hg] using h

theorem State.tableNarrows_sealEntry {i : Fin 64} (hs : (s.entry i).state ≠ .free) :
    s.TableNarrows (s.sealEntry i) := by
  have hseal : s.TableNarrows
      (s.modifyEntry i fun e => { e with state := .sealed, sealed := some s.clock.driveClock }) :=
    State.tableNarrows_modifyEntry (Entry.narrows_seal hs _)
  refine hseal.trans (.of_table_eq ?_)
  simp only [State.sealEntry]
  split <;> simp

theorem State.tableNarrows_settleEntry (s : State) (i : Fin 64) : s.TableNarrows (s.settleEntry i) := by
  simp only [State.settleEntry]
  split
  · exact .of_table_eq rfl
  · split
    next => exact (s.tableNarrows_clearEntry i).trans (.of_table_eq (by simp))
    next hs =>
      split
      · exact .of_table_eq rfl
      · exact State.tableNarrows_sealEntry (by simp [hs])
    all_goals exact .of_table_eq rfl

theorem State.tableNarrows_joltMarking (hg : s.grantsInOrder) : s.TableNarrows s.joltMarking := by
  refine State.tableNarrows_mapEntries fun i => ?_
  split
  next h => exact Entry.narrows_jolt (State.live_of_hasGrant hg (State.named_iff.mp h))
  next => exact .refl _

theorem State.tableNarrows_startSettling (hg : s.grantsInOrder) : s.TableNarrows s.startSettling := by
  have hmap : s.TableNarrows (s.mapEntries fun i e => settledRecord (s.named i) e) := by
    refine State.tableNarrows_mapEntries fun i => ?_
    unfold settledRecord
    split
    · exact Entry.narrows_cleared _
    · split
      next h => exact Entry.narrows_mark (State.live_of_hasGrant hg (State.named_iff.mp h))
      next => exact .refl _
  refine hmap.trans (.of_table_eq ?_)
  simp only [State.startSettling]
  split <;> simp

theorem State.tableNarrows_removeGrant (hg : s.grantsInOrder) {k : Fin 8} {g : Grant} {f : Entry → Entry}
    (hk : s.grants.slots[k] = some g) (hf : ∀ e : Entry, e.state ≠ .free → e.Narrows (f e)) :
    s.TableNarrows (s.removeGrant k g f) := by
  have hset : s.TableNarrows (s.setGrant k none) := .of_table_eq (by simp)
  simp only [State.removeGrant]
  split
  next i hi =>
    have hlive : ((s.setGrant k none).entry i).state ≠ .free := State.live_of_hasGrant hg ⟨k, g, hk, hi⟩
    exact (hset.trans ((State.tableNarrows_modifyEntry (hf _ hlive)).trans (State.tableNarrows_settleEntry _ i))).trans
      (.of_table_eq (by simp))
  next => exact hset.trans (.of_table_eq (by simp))

end Sys2Proof.Machine

namespace Sys2Proof.Machine

variable {s t u : State}

/-! ## Windows that join the table -/

theorem Window.share_comm {w v : Window} : w.share v ↔ v.share w := by
  simp only [Window.share]
  constructor <;> rintro ⟨b, h1, h2, h3, h4⟩ <;> exact ⟨b, h3, h4, h1, h2⟩

theorem Window.within_iff (w : Window) (limit : Nat) : w.within limit ↔ w.last ≤ limit := Iff.rfl

theorem Window.aligned_eq_false_iff (w : Window) : w.aligned = false ↔ ¬ w.fits := by
  rw [← Window.aligned_iff, Bool.not_eq_true]

theorem State.overlapsLive_eq_false_iff (w : Window) : s.overlapsLive w = false ↔ ¬ s.shares w := by
  rw [← State.overlapsLive_iff, Bool.not_eq_true]

theorem State.freePool_eq (s : State) : s.freePool = 192 - s.heldSlots := rfl

theorem State.reserveRefuses_eq_true_iff :
    s.reserveRefuses = true ↔ s.supply.present = false ∧ s.supply.level ≠ .ample := by
  simp [State.reserveRefuses]

theorem State.findSurvey_eq_none_iff {n : Nat} : s.findSurvey n = none ↔ s.unheld n := by
  refine ⟨fun h => by_contra fun hn => ?_, State.findSurvey_of_unheld⟩
  simpa [h] using State.findSurvey_isSome_of_held hn

theorem State.live_of_findSurvey {n : Nat} {i : Fin 64} (h : s.findSurvey n = some i) : (s.entry i).state ≠ .free := by
  have := List.find?_some h
  simp only [Bool.and_eq_true, Entry.live_iff] at this
  exact this.1

/-- In a table in order a FREE record holds no number, so a number no live entry holds stands nowhere. -/
theorem State.number_ne_of_unheld {n : Nat} (hs : ∀ i, (s.entry i).inOrder) (hn : s.unheld n) (i : Fin 64) :
    (s.entry i).number ≠ some n := by
  by_cases hf : (s.entry i).state = .free
  · rw [Entry.eq_cleared (hs i) hf]; simp [Entry.cleared]
  · exact hn i hf

/-- A FREE record holds no window. -/
theorem State.not_share_of_not_shares {w v : Window} {i : Fin 64} (hs : ∀ i, (s.entry i).inOrder) (hw : ¬ s.shares w)
    (hv : v ∈ (s.entry i).windows) : ¬ w.share v := by
  intro hwv
  refine hw ⟨i, v, fun hf => ?_, hv, hwv⟩
  rw [Entry.eq_cleared (hs i) hf] at hv
  simp [Entry.cleared] at hv

/-- A record whose number and windows are its own may be written into a table in order. -/
theorem State.tableInOrder_setEntry {i : Fin 64} {e : Entry} (hs : s.tableInOrder) (he : e.inOrder)
    (hnumber : ∀ n j, j ≠ i → e.number = some n → (s.entry j).number ≠ some n)
    (hwindows : ∀ w ∈ e.windows, w.cls ≤ 19 ∧ w.fits ∧ w.within s.table.mediaLimit)
    (hothers : ∀ j, j ≠ i → ∀ w ∈ e.windows, ∀ v ∈ (s.entry j).windows, ¬ w.share v)
    (hown : ∀ (k l : Nat) (w v : Window), e.windows[k]? = some w → e.windows[l]? = some v → w.share v → k = l)
    (hpool : s.heldSlots + e.windows.length ≤ 192 + (s.entry i).windows.length) : (s.setEntry i e).tableInOrder := by
  obtain ⟨hentries, hnumbers, hin, hshare, -, hlimit⟩ := hs
  have hother {j} (hj : j ≠ i) : (s.setEntry i e).entry j = s.entry j := s.entry_setEntry_ne hj e
  refine ⟨fun j => ?_, fun j l n hjl hj hl => ?_, fun j w hw => ?_, fun j l k m w v hw hv hwv => ?_, ?_, hlimit⟩
  · by_cases hj : j = i
    · subst hj; rwa [State.entry_setEntry_same]
    · rw [hother hj]; exact hentries j
  · by_cases hj' : j = i
    · subst hj'
      rw [State.entry_setEntry_same] at hj
      rw [hother hjl.symm] at hl
      exact hnumber n l hjl.symm hj hl
    · rw [hother hj'] at hj
      by_cases hl' : l = i
      · subst hl'
        rw [State.entry_setEntry_same] at hl
        exact hnumber n j hj' hl hj
      · rw [hother hl'] at hl
        exact hnumbers j l n hjl hj hl
  · by_cases hj : j = i
    · subst hj
      rw [State.entry_setEntry_same] at hw
      exact hwindows w hw
    · rw [hother hj] at hw
      exact hin j w hw
  · by_cases hj : j = i
    · subst hj
      rw [State.entry_setEntry_same] at hw
      by_cases hl : l = j
      · subst hl
        rw [State.entry_setEntry_same] at hv
        exact ⟨rfl, hown k m w v hw hv hwv⟩
      · rw [hother hl] at hv
        exact absurd hwv (hothers l hl w (List.mem_of_getElem? hw) v (List.mem_of_getElem? hv))
    · rw [hother hj] at hw
      by_cases hl : l = i
      · subst hl
        rw [State.entry_setEntry_same] at hv
        exact absurd (Window.share_comm.mp hwv) (hothers j hj v (List.mem_of_getElem? hv) w (List.mem_of_getElem? hw))
      · rw [hother hl] at hv
        exact hshare j l k m w v hw hv hwv
  · have := State.heldSlots_setEntry (s := s) i e
    omega

/-! ## OPEN-SURVEY -/

theorem nat2_le (b1 b0 : Byte) : nat2 b1 b0 ≤ 65535 := by
  have := b1.isLt; have := b0.isLt
  unfold nat2; omega

theorem nat4_le (b3 b2 b1 b0 : Byte) : nat4 b3 b2 b1 b0 ≤ 4294967295 := by
  have := b3.isLt; have := b2.isLt; have := b1.isLt; have := b0.isLt
  unfold nat4; omega

theorem readOpen_number_le {p : List Byte} {n : Nat} {w : Window} {label : List Byte}
    (h : readOpen p = some (n, w, label)) : n ≤ 65535 := by
  unfold readOpen at h
  split at h
  · simp only [Option.map_eq_some_iff, Prod.mk.injEq] at h
    obtain ⟨_, -, rfl, -⟩ := h
    exact nat2_le _ _
  · cases h

/-- A chain of checks: the first one met refuses. -/
theorem ite_some_eq_none_iff {α : Type} {p : Prop} [Decidable p] {c : α} {r : Option α} :
    (if p then some c else r) = none ↔ ¬ p ∧ r = none := by
  split <;> simp_all

theorem State.freePool_eq_zero_iff : s.freePool = 0 ↔ 192 ≤ s.heldSlots := by
  rw [State.freePool_eq]; omega

/-- R11: what every check of OPEN-SURVEY having passed says. -/
theorem State.openRefusal_eq_none_iff {n : Nat} {w : Window} {label : List Byte} :
    s.openRefusal n w label = none ↔
      (n ≠ 0 ∧ w.cls ≤ 19 ∧ label.length ≤ 16) ∧ s.unheld n ∧ w.fits ∧ w.within s.table.mediaLimit ∧ ¬ s.shares w ∧
        (s.lowestFree.isSome = true ∧ s.heldSlots < 192) ∧ s.reserveRefuses = false := by
  simp only [State.openRefusal, ite_some_eq_none_iff, Option.isSome_eq_false_iff, State.findSurvey_eq_none_iff,
    Window.aligned_eq_false_iff, not_not, Nat.not_lt, ← Window.within_iff, State.overlapsLive_iff,
    State.freePool_eq_zero_iff, not_or, Nat.not_le, Option.isNone_iff_eq_none, Option.ne_none_iff_isSome,
    Bool.not_eq_true, and_true, ne_eq, Config.maxClass, Config.maxLabel]

theorem Entry.inOrder_openedAs {n : Nat} {w : Window} {label : List Byte} (stamp : Nat) (hn : n ≠ 0) (hn' : n ≤ 65535)
    (hl : label.length ≤ 16) : (Entry.openedAs n w label stamp).inOrder := by
  refine Entry.inOrder_of_fields (by simp [Entry.openedAs]) ?_
  constructor <;> simp [Entry.openedAs, Entry.cleared] <;> omega

theorem State.tableInOrder_openIn {i : Fin 64} {n : Nat} {w : Window} {label : List Byte} (hs : s.tableInOrder)
    (hn : n ≤ 65535) (h : s.openRefusal n w label = none) :
    (s.openIn i n w label).tableInOrder := by
  obtain ⟨⟨hpos, hcls, hlabel⟩, hunheld, hfits, hwithin, hfree, ⟨-, hpool⟩, -⟩ := State.openRefusal_eq_none_iff.mp h
  refine State.tableInOrder_of_table_eq (s := s.setEntry i (Entry.openedAs n w label s.clock.driveClock))
    (by simp [State.openIn]) ?_
  have hwindow {v : Window} (hv : v ∈ (Entry.openedAs n w label s.clock.driveClock).windows) : v = w := by
    simpa [Entry.openedAs] using hv
  refine State.tableInOrder_setEntry hs (Entry.inOrder_openedAs _ hpos hn hlabel) ?_ ?_ ?_ ?_ ?_
  · intro m j _ hm
    cases hm
    exact State.number_ne_of_unheld hs.1 hunheld j
  · intro v hv
    rw [hwindow hv]
    exact ⟨hcls, hfits, hwithin⟩
  · intro j _ v hv x hx
    rw [hwindow hv]
    exact State.not_share_of_not_shares hs.1 hfree hx
  · intro k l v x hv hx _
    have hk := (List.getElem?_eq_some_iff.mp hv).1
    have hl := (List.getElem?_eq_some_iff.mp hx).1
    simp only [Entry.openedAs, List.length_singleton] at hk hl
    omega
  · simp only [Entry.openedAs, List.length_singleton]
    omega

/-! ## ADD-WINDOW -/

/-- R14: what every check of ADD-WINDOW having passed says. -/
theorem State.addRefusal_eq_none_iff {i : Fin 64} {w : Window} :
    s.addRefusal i w = none ↔
      (s.entry i).state = .opened ∧ w.fits ∧ w.within s.table.mediaLimit ∧ ¬ s.shares w ∧
        (s.entry i).windows.length < 8 ∧ s.heldSlots < 192 := by
  simp only [State.addRefusal, ite_some_eq_none_iff, Window.aligned_eq_false_iff, not_not, Nat.not_lt, ne_eq,
    ← Window.within_iff, State.overlapsLive_iff, State.freePool_eq_zero_iff, not_or, Nat.not_le, and_true,
    Config.maxWindows]

theorem Entry.inOrder_addWindow {e : Entry} {w : Window} (he : e.inOrder) (hs : e.state ≠ .free)
    (hl : e.windows.length < 8) : (e.addWindow w).inOrder := by
  refine Entry.inOrder_of_fields hs { Entry.fields_of_inOrder hs he with windows_pos := ?_, windows_le := ?_ } <;>
    simp only [Entry.addWindow, List.length_append, List.length_singleton] <;> omega

theorem State.tableInOrder_addWindow {i : Fin 64} {w : Window} (hs : s.tableInOrder) (hcls : w.cls ≤ 19)
    (h : s.addRefusal i w = none) : (s.modifyEntry i (Entry.addWindow w)).tableInOrder := by
  obtain ⟨hstate, hfits, hwithin, hfree, hlen, hpool⟩ := State.addRefusal_eq_none_iff.mp h
  have hlive : (s.entry i).state ≠ .free := by simp [hstate]
  have hwindow {v : Window} (hv : v ∈ ((s.entry i).addWindow w).windows) : v ∈ (s.entry i).windows ∨ v = w := by
    simpa [Entry.addWindow] using hv
  obtain ⟨hentries, hnumbers, hin, hshare, -, -⟩ := id hs
  refine State.tableInOrder_setEntry hs (Entry.inOrder_addWindow (hentries i) hlive hlen) ?_ ?_ ?_ ?_ ?_
  · intro n j hj hn
    exact hnumbers i j n hj.symm hn
  · intro v hv
    rcases hwindow hv with hv | rfl
    · exact hin i v hv
    · exact ⟨hcls, hfits, hwithin⟩
  · intro j hj v hv x hx hvx
    rcases hwindow hv with hv | rfl
    · obtain ⟨k, hk⟩ := List.mem_iff_getElem?.mp hv
      obtain ⟨l, hl⟩ := List.mem_iff_getElem?.mp hx
      exact hj (hshare i j k l v x hk hl hvx).1.symm
    · exact State.not_share_of_not_shares hentries hfree hx hvx
  · have hlast (k : Nat) (v : Window) (hk : ((s.entry i).addWindow w).windows[k]? = some v) :
        (s.entry i).windows[k]? = some v ∨ (k = (s.entry i).windows.length ∧ v = w) := by
      simp only [Entry.addWindow, List.getElem?_append, List.getElem?_singleton] at hk
      split at hk
      · exact .inl hk
      · split at hk
        · exact .inr ⟨by omega, (Option.some.inj hk).symm⟩
        · cases hk
    intro k l v x hv hx hvx
    rcases hlast k v hv with hv' | ⟨rfl, rfl⟩ <;> rcases hlast l x hx with hx' | ⟨rfl, rfl⟩
    · exact (hshare i i k l v x hv' hx' hvx).2
    · exact absurd (Window.share_comm.mp hvx) (State.not_share_of_not_shares hentries hfree (List.mem_of_getElem? hv'))
    · exact absurd hvx (State.not_share_of_not_shares hentries hfree (List.mem_of_getElem? hx'))
    · rfl
  · simp only [Entry.addWindow, List.length_append, List.length_singleton]
    omega

/-! ## RESTORE -/

/-- A check of the listed windows passes. -/
theorem firstFailing_eq_none_iff {fails : Nat → Window → Bool} {ws : List Window} :
    firstFailing fails ws = none ↔ ∀ (k : Nat) (w : Window), ws[k]? = some w → fails k w = false := by
  simp only [firstFailing, Option.map_eq_none_iff, List.find?_eq_none, Prod.forall, List.mem_zipIdx_iff_getElem?,
    Bool.not_eq_true]
  exact forall_comm

/-- A check of the listed windows fails first for the window of this index. -/
theorem firstFailing_eq_some {fails : Nat → Window → Bool} {ws : List Window} {k : Nat} {w : Window}
    (hw : ws[k]? = some w) (hk : fails k w = true) (hlt : ∀ j v, j < k → ws[j]? = some v → fails j v = false) :
    firstFailing fails ws = some k := by
  obtain ⟨hkl, rfl⟩ := List.getElem?_eq_some_iff.mp hw
  have hfind : ws.zipIdx.find? (fun (w, k) => fails k w) = some (ws[k], k) := by
    refine List.find?_eq_some_iff_getElem.mpr ⟨hk, k, by simpa using hkl, by simp, fun j hj => ?_⟩
    simpa using hlt j _ hj (List.getElem?_eq_getElem _)
  rw [firstFailing, hfind]
  rfl

theorem readRestore_number_le {p : List Byte} {n o z h : Nat} {label : List Byte} {ws : List Window}
    (hp : readRestore p = some (n, o, z, h, label, ws)) : n ≤ 65535 := by
  unfold readRestore at hp
  split at hp
  · split at hp
    · split at hp
      · simp only [Option.map_eq_some_iff, Prod.mk.injEq] at hp
        obtain ⟨_, -, rfl, -⟩ := hp
        exact nat2_le _ _
      · cases hp
    · cases hp
  · cases hp

theorem forall_getElem?_iff {ws : List Window} {P : Window → Prop} :
    (∀ (k : Nat) (w : Window), ws[k]? = some w → P w) ↔ ∀ w ∈ ws, P w := by
  simp only [List.mem_iff_getElem?, forall_exists_index]
  exact forall_comm

theorem State.restoreOverlaps_eq_false_iff {ws : List Window} {k : Nat} {w : Window} :
    s.restoreOverlaps ws k w = false ↔ ¬ s.shares w ∧ ∀ v ∈ ws.take k, ¬ w.share v := by
  simp only [State.restoreOverlaps, Bool.or_eq_false_iff, State.overlapsLive_eq_false_iff, List.any_eq_false,
    Window.overlaps_iff]

/-- R71: the operands are sound. -/
def RestoreSound (n : Nat) (label : List Byte) (ws : List Window) : Prop :=
  n ≠ 0 ∧ label.length ≤ 16 ∧ ws ≠ [] ∧ ws.length ≤ 8 ∧ ∀ w ∈ ws, w.cls ≤ 19

theorem restoreSound_iff {n : Nat} {label : List Byte} {ws : List Window} :
    RestoreSound n label ws ↔ ¬ (n = 0 ∨ Config.maxLabel < label.length ∨ ws = [] ∨ Config.maxWindows < ws.length ∨
      (ws.any fun w => decide (Config.maxClass < w.cls)) = true) := by
  simp only [RestoreSound, not_or, Nat.not_lt, List.any_eq_true, decide_eq_true_eq, not_exists, not_and, ne_eq]
  exact Iff.rfl

/-- R71, R72: what every check of RESTORE having passed says. -/
theorem State.of_restoreRefusal_eq_none {n : Nat} {label : List Byte} {ws : List Window}
    (h : s.restoreRefusal n label ws = none) :
    RestoreSound n label ws ∧ s.unheld n ∧ (∀ w ∈ ws, w.fits) ∧ (∀ w ∈ ws, w.within s.table.mediaLimit) ∧
      (∀ (k : Nat) (w : Window), ws[k]? = some w → ¬ s.shares w ∧ ∀ v ∈ ws.take k, ¬ w.share v) ∧
      s.heldSlots + ws.length ≤ 192 := by
  simp only [State.restoreRefusal, ite_some_eq_none_iff, ← restoreSound_iff] at h
  obtain ⟨hsound, hnumber, h⟩ := h
  have hfull := hsound.2.2.1
  split at h
  · cases h
  next hfits =>
  split at h
  · cases h
  next hwithin =>
  split at h
  · cases h
  next hoverlap =>
  rw [ite_some_eq_none_iff, not_or, State.freePool_eq] at h
  simp only [firstFailing_eq_none_iff, Bool.not_eq_false', decide_eq_false_iff_not, Nat.not_lt, ← Window.within_iff,
    Window.aligned_iff, forall_getElem?_iff (P := Window.fits), State.restoreOverlaps_eq_false_iff,
    forall_getElem?_iff (P := fun w => w.within s.table.mediaLimit)] at hfits hwithin hoverlap
  have hlen : 0 < ws.length := List.length_pos_iff.mpr hfull
  refine ⟨hsound, ?_, hfits, hwithin, hoverlap, by omega⟩
  rwa [Bool.not_eq_true, Option.isSome_eq_false_iff, Option.isNone_iff_eq_none, State.findSurvey_eq_none_iff] at hnumber

theorem restoredHold_le {runSeconds seconds d : Nat} (h : restoredHold runSeconds seconds = some d) :
    d ≤ 4294967295 := by
  unfold restoredHold at h
  split at h
  · cases h
  · cases h
    exact Nat.min_le_right _ _

theorem Entry.inOrder_restoredAs {n : Nat} {hold : Option Nat} {label : List Byte} {ws : List Window} (o z : Nat)
    (hn : n ≤ 65535) (hs : RestoreSound n label ws) (hh : ∀ d, hold = some d → d ≤ 4294967295) :
    (Entry.restoredAs n o z hold label ws).inOrder := by
  obtain ⟨hpos, hlabel, hne, hlen, -⟩ := hs
  have hlen' : 0 < ws.length := List.length_pos_iff.mpr hne
  refine Entry.inOrder_of_fields (by simp [Entry.restoredAs]) ?_
  constructor <;> simp [Entry.restoredAs, Entry.cleared] <;> omega

theorem State.tableInOrder_restore {i : Fin 64} {n : Nat} {label : List Byte} {ws : List Window} {hold : Option Nat}
    (o z : Nat) (hs : s.tableInOrder) (hn : n ≤ 65535) (hh : ∀ d, hold = some d → d ≤ 4294967295)
    (h : s.restoreRefusal n label ws = none) :
    (s.setEntry i (Entry.restoredAs n o z hold label ws)).tableInOrder := by
  obtain ⟨hsound, hunheld, hfits, hwithin, hfree, hpool⟩ := State.of_restoreRefusal_eq_none h
  obtain ⟨-, -, -, -, hcls⟩ := id hsound
  refine State.tableInOrder_setEntry hs (Entry.inOrder_restoredAs o z hn hsound hh) ?_ ?_ ?_ ?_ ?_
  · intro m j _ hm
    cases hm
    exact State.number_ne_of_unheld hs.1 hunheld j
  · exact fun w hw => ⟨hcls w hw, hfits w hw, hwithin w hw⟩
  · intro j _ w hw v hv
    obtain ⟨k, hk⟩ := List.mem_iff_getElem?.mp hw
    exact State.not_share_of_not_shares hs.1 (hfree k w hk).1 hv
  · have hearlier {k l : Nat} {w v : Window} (hw : ws[k]? = some w) (hv : ws[l]? = some v) (hkl : k < l) :
        ¬ v.share w :=
      (hfree l v hv).2 w (by
        obtain ⟨hk, rfl⟩ := List.getElem?_eq_some_iff.mp hw
        exact List.mem_take_iff_getElem.mpr ⟨k, by omega, rfl⟩)
    intro k l w v hw hv hwv
    rcases Nat.lt_trichotomy k l with hkl | hkl | hkl
    · exact absurd (Window.share_comm.mp hwv) (hearlier hw hv hkl)
    · exact hkl
    · exact absurd hwv (hearlier hv hw hkl)
  · simp only [Entry.restoredAs]
    omega

/-! ## The media limit -/

theorem State.limitRefused_eq_true_iff {v : Nat} :
    s.limitRefused v = true ↔ ∃ i w, (s.entry i).state ≠ .free ∧ w ∈ (s.entry i).windows ∧ ¬ w.within v := by
  simp only [State.limitRefused, List.any_eq_true, decide_eq_true_eq, Window.within_iff, Nat.not_le]
  constructor
  · rintro ⟨⟨i, k, w⟩, hm, hlt⟩
    obtain ⟨hlive, hw⟩ := State.mem_liveWindows.mp hm
    exact ⟨i, w, hlive, List.mem_of_getElem? hw, hlt⟩
  · rintro ⟨i, w, hlive, hw, hlt⟩
    obtain ⟨k, hk⟩ := State.mem_liveWindows_of_mem hlive hw
    exact ⟨(i, k, w), hk, hlt⟩

theorem State.tableInOrder_setMediaLimit {v : Nat} (hs : s.tableInOrder) (hv : v ≤ 4294967295)
    (h : s.limitRefused v = false) : (s.onTable fun t => { t with mediaLimit := v }).tableInOrder := by
  obtain ⟨hentries, hnumbers, hin, hshare, hheld, -⟩ := hs
  refine ⟨hentries, hnumbers, fun i w hw => ?_, hshare, hheld, hv⟩
  obtain ⟨hcls, hfits, -⟩ := hin i w hw
  refine ⟨hcls, hfits, by_contra fun hn => ?_⟩
  have hlive : (s.entry i).state ≠ .free := by
    intro hf
    have hw : w ∈ (s.entry i).windows := hw
    rw [Entry.eq_cleared (hentries i) hf] at hw
    simp [Entry.cleared] at hw
  exact Bool.false_ne_true (h.symm.trans (State.limitRefused_eq_true_iff.mpr ⟨i, w, hlive, hw, hn⟩))

end Sys2Proof.Machine

namespace Sys2Proof.Machine

variable {s t u : State}

/-! ## Events that leave the Survey Table as it is -/

section
variable (s : State)

@[simp] theorem State.answerFormed_table : s.answerFormed.table = s.table := by
  unfold State.answerFormed; split <;> rfl
@[simp] theorem State.wakingEnds_table : s.wakingEnds.table = s.table := by
  unfold State.wakingEnds; split <;> rfl
@[simp] theorem State.addressByte_table (a : BitVec 7) (d : Dir) : (s.addressByte a d).table = s.table := by
  simp only [State.addressByte]; (repeat' split) <;> simp
@[simp] theorem State.missSample_table : s.missSample.table = s.table := by
  simp only [State.missSample, State.enterBlind]; (repeat' split) <;> simp
@[simp] theorem State.transferFailed_table : s.transferFailed.table = s.table := by
  simp [State.transferFailed]
@[simp] theorem State.sampleExpiry_table : s.sampleExpiry.table = s.table := by
  simp only [State.sampleExpiry]; (repeat' split) <;> simp
@[simp] theorem State.setupEnds_table (good : Bool) : (s.setupEnds good).table = s.table := by
  simp only [State.setupEnds]; (repeat' split) <;> simp
@[simp] theorem State.settleExpiry_table : s.settleExpiry.table = s.table := by
  simp only [State.settleExpiry]; split <;> simp
@[simp] theorem State.supplySettles_table : s.supplySettles.table = s.table := by
  simp only [State.supplySettles]; split <;> simp
@[simp] theorem State.spinTimesOut_table : s.spinTimesOut.table = s.table := by
  simp [State.spinTimesOut]
@[simp] theorem State.unloads_table : s.unloads.table = s.table := rfl
@[simp] theorem State.drdyRises_table : s.drdyRises.table = s.table := by
  simp only [State.drdyRises]; split <;> simp
@[simp] theorem State.drdyFalls_table : s.drdyFalls.table = s.table := by
  simp only [State.drdyFalls]; split <;> simp
@[simp] theorem State.periodEnds_table (code volts : BitVec 16) : (s.periodEnds code volts).table = s.table := by
  simp only [State.periodEnds]; split <;> simp
@[simp] theorem State.sprsChanges_table (present : Bool) : (s.sprsChanges present).table = s.table := by
  simp only [State.sprsChanges]; (repeat' split) <;> simp
@[simp] theorem State.dozeExpiry_table : s.dozeExpiry.table = s.table := by
  simp only [State.dozeExpiry]; split <;> simp
@[simp] theorem State.enterRetain_table : s.enterRetain.table = s.table := rfl
@[simp] theorem State.tick_table : s.tick.table = s.table := by
  simp only [State.tick]; split <;> rfl
@[simp] theorem State.setTarget_table (target : Target) : (s.setTarget target).table = s.table := by
  simp only [State.setTarget, State.actOnTarget]; (repeat' split) <;> simp
@[simp] theorem State.setCharge_table (mAh : Nat) : (s.setCharge mAh).table = s.table := by
  simp [State.setCharge]
@[simp] theorem State.clearAttention_table (v : Nat) : (s.clearAttention v).table = s.table := rfl
@[simp] theorem State.setCycleDelay_table (d : Nat) : (s.setCycleDelay d).table = s.table := by
  simp only [State.setCycleDelay]; (repeat' split) <;> simp

theorem State.phaseExpiry_table {f : State → State} (h : (f s).table = s.table) (state : SeqState) :
    (s.phaseExpiry state f).table = s.table := by
  unfold State.phaseExpiry; split
  · exact h
  · rfl

theorem State.event_table {f : State → State} (h : (f s).table = s.table) : (s.event f).table = s.table := by
  unfold State.event; split
  · rfl
  · simpa using h

theorem State.onBus_table {f : State → State} (h : (f s).table = s.table) (c : Instr) :
    (s.onBus c f).table = s.table := by
  unfold State.onBus; split
  · exact s.event_table rfl
  · exact s.event_table h

end

/-! ## A read in flight marks jolts at most -/

/-- The Survey Table is as it was, or as a jolt marking leaves it. -/
def State.JoltedTo (s t : State) : Prop := t.table = s.table ∨ t.table = s.joltMarking.table

/-- A jolt marking reads the Survey Table and the grants. -/
theorem State.joltMarking_table_congr (ht : t.table = s.table) (hg : t.grants = s.grants) :
    t.joltMarking.table = s.joltMarking.table := by
  cases s; cases t
  dsimp only at ht hg
  subst ht hg
  rfl

theorem State.JoltedTo.congr (ht : t.table = s.table) (hg : t.grants = s.grants) (h : t.JoltedTo u) : s.JoltedTo u := by
  rw [State.JoltedTo, State.joltMarking_table_congr ht hg, ht] at h
  exact h

theorem State.joltedTo_knock (s : State) (m2 : Nat) : s.JoltedTo (s.knock m2) := .inr (by simp [State.knock])

theorem State.joltedTo_enterFalling (s : State) (m2 : Nat) : s.JoltedTo (s.enterFalling m2) :=
  .congr (t := s.emergencyUnload) (by simp) (by simp) (.inr (by simp [State.enterFalling]))

theorem State.joltedTo_lowSample (s : State) (m2 : Nat) (next : GuardState) : s.JoltedTo (s.lowSample m2 next) := by
  unfold State.lowSample
  split
  · exact s.joltedTo_enterFalling m2
  · exact .inl (by simp [State.setRun])

theorem State.joltedTo_sampleInCalm (s : State) (m2 : Nat) (c : SampleClass) : s.JoltedTo (s.sampleInCalm m2 c) := by
  cases c
  case low => exact .congr (t := s.setRun 0) rfl rfl (State.joltedTo_lowSample _ m2 .watch)
  case normal => exact .inl rfl
  case impact => exact s.joltedTo_knock m2

theorem State.joltedTo_sampleInWatch (s : State) (m2 : Nat) (c : SampleClass) : s.JoltedTo (s.sampleInWatch m2 c) := by
  cases c
  case low => exact s.joltedTo_lowSample m2 .watch
  case normal => exact .inl (by simp [State.sampleInWatch, State.setRun])
  case impact => exact s.joltedTo_knock m2

theorem State.sampleInFalling_table (s : State) (c : SampleClass) : (s.sampleInFalling c).table = s.table := by
  cases c <;> simp only [State.sampleInFalling, State.setRun, State.landed] <;> (repeat' split) <;> simp

theorem State.joltedTo_sampleInSettle (s : State) (m2 : Nat) (c : SampleClass) :
    s.JoltedTo (s.sampleInSettle m2 c) := by
  cases c
  case low => exact s.joltedTo_lowSample m2 .settle
  case normal => exact .inl rfl
  case impact => exact .inl rfl

theorem State.joltedTo_takeSample (s : State) (m2 : Nat) (c : SampleClass) : s.JoltedTo (s.takeSample m2 c) := by
  have htable : s.leaveBlind.table = s.table := by unfold State.leaveBlind; split <;> simp
  have hgrants : s.leaveBlind.grants = s.grants := by unfold State.leaveBlind; split <;> simp
  refine .congr htable hgrants ?_
  simp only [State.takeSample]
  split
  · exact State.joltedTo_sampleInCalm _ m2 c
  · exact State.joltedTo_sampleInWatch _ m2 c
  · exact .inl (State.sampleInFalling_table _ c)
  · exact State.joltedTo_sampleInSettle _ m2 c
  · exact .inl rfl

theorem State.joltedTo_readEnds (s : State) (sample : Option Sample) : s.JoltedTo (s.readEnds sample) := by
  simp only [State.readEnds]
  split
  · exact .inl rfl
  · split
    · exact .inl (by simp)
    · exact .congr (t := s.onGuard (Guard.goodRead _)) rfl rfl (State.joltedTo_takeSample _ _ _)

/-! ## What keeps the table in order -/

/-- From a table and grants in order, the table is in order again. -/
def State.KeepsTable (s t : State) : Prop := s.tableInOrder → s.grantsInOrder → t.tableInOrder

theorem State.keepsTable_of_table_eq (h : t.table = s.table) : s.KeepsTable t :=
  fun hs _ => State.tableInOrder_of_table_eq h hs

theorem State.keepsTable_of_narrows (h : s.grantsInOrder → s.TableNarrows t) : s.KeepsTable t :=
  fun hs hg => (h hg).tableInOrder hs

theorem State.KeepsTable.congr_left (ht : t.table = s.table) (hg : t.grants = s.grants) (h : t.KeepsTable u) :
    s.KeepsTable u :=
  fun hs hgr => h (State.tableInOrder_of_table_eq ht hs) (State.grantsInOrder_of_eq ht hg hgr)

theorem State.KeepsTable.congr_right (hu : u.table = t.table) (h : s.KeepsTable t) : s.KeepsTable u :=
  fun hs hg => State.tableInOrder_of_table_eq hu (h hs hg)

theorem State.KeepsTable.of_joltedTo (h : s.JoltedTo t) : s.KeepsTable t := by
  rcases h with h | h
  · exact State.keepsTable_of_table_eq h
  · exact .congr_right h (State.keepsTable_of_narrows State.tableNarrows_joltMarking)

theorem State.KeepsTable.event {f : State → State} (h : s.KeepsTable (f s)) : s.KeepsTable (s.event f) := by
  unfold State.event
  split
  · exact State.keepsTable_of_table_eq rfl
  · exact h.congr_right (by simp)

theorem State.KeepsTable.transfer {c : Instr} {dir : Dir} {lost start : Link → Link} {rest : State → State}
    (h : ∀ b : State, b.KeepsTable (rest b)) : s.KeepsTable (s.transfer c dir lost start rest) := by
  unfold State.transfer
  split
  · exact State.keepsTable_of_table_eq rfl
  · split
    · exact State.keepsTable_of_table_eq (s.event_table rfl)
    · split
      · exact State.keepsTable_of_table_eq rfl
      · split
        · exact State.keepsTable_of_table_eq (by simp)
        · split
          · exact State.keepsTable_of_table_eq rfl
          · exact .congr_right (State.dozeFollows_table _ _) (.congr_left (by simp) (by simp) (h _))

/-- A request keeps the table in order where its owning block does, whatever it is handed. -/
theorem State.KeepsTable.request {serve : List Byte → State → Served} (h : ∀ p (b : State), b.KeepsTable (serve p b).1)
    (c : Instr) (code : Byte) (payload : List Byte) : s.KeepsTable (s.request c code payload serve) := by
  refine .transfer fun b => ?_
  split
  · exact .congr_right (State.answerWrite_table _ _) (h _ b)
  all_goals exact State.keepsTable_of_table_eq rfl

theorem State.KeepsTable.onSurvey {n : Nat} {act : Fin 64 → Served}
    (h : ∀ i, (s.entry i).state ≠ .free → s.KeepsTable (act i).1) : s.KeepsTable (s.onSurvey n act).1 := by
  unfold State.onSurvey
  split
  · exact State.keepsTable_of_table_eq rfl
  · split
    · exact State.keepsTable_of_table_eq rfl
    next i hi => exact h i (State.live_of_findSurvey hi)

/-! ## The requests -/

/-! The requests that report, and those that act on other blocks alone, do not touch the Survey Table. -/

section
variable (s : State) (p : List Byte)

theorem serveReadStatus_table : (serveReadStatus p s).1.table = s.table := by
  unfold serveReadStatus; split <;> rfl
theorem serveClearAttention_table : (serveClearAttention p s).1.table = s.table := by
  unfold serveClearAttention; (repeat' split) <;> rfl
theorem serveReadParam_table : (serveReadParam p s).1.table = s.table := by
  unfold serveReadParam; (repeat' split) <;> rfl
theorem serveReadClock_table : (serveReadClock p s).1.table = s.table := by
  unfold serveReadClock; split <;> rfl
theorem serveSetClock_table : (serveSetClock p s).1.table = s.table := by
  unfold serveSetClock; split <;> rfl
theorem serveReadGrants_table : (serveReadGrants p s).1.table = s.table := by
  unfold serveReadGrants; split <;> rfl
theorem serveReadGuard_table : (serveReadGuard p s).1.table = s.table := by
  unfold serveReadGuard; split <;> rfl
theorem serveReadMechanism_table : (serveReadMechanism p s).1.table = s.table := by
  unfold serveReadMechanism; split <;> rfl
theorem serveReadGauge_table : (serveReadGauge p s).1.table = s.table := by
  unfold serveReadGauge; split <;> rfl
theorem serveFindBlock_table : (serveFindBlock p s).1.table = s.table := by
  unfold serveFindBlock; (repeat' split) <;> rfl
theorem serveReadEntry_table : (serveReadEntry p s).1.table = s.table := by
  unfold serveReadEntry; (repeat' split) <;> rfl
theorem serveNextEntry_table : (serveNextEntry p s).1.table = s.table := by
  unfold serveNextEntry; (repeat' split) <;> rfl
theorem serveFindSurvey_table : (serveFindSurvey p s).1.table = s.table := by
  unfold serveFindSurvey State.onSurvey; (repeat' split) <;> rfl
theorem serveSetTarget_table : (serveSetTarget p s).1.table = s.table := by
  unfold serveSetTarget; split <;> simp [State.unchanged]
theorem serveSetCharge_table : (serveSetCharge p s).1.table = s.table := by
  unfold serveSetCharge; split <;> simp [State.unchanged]

end

theorem keepsTable_restart (s : State) : s.KeepsTable s.restart := by
  refine .congr_right (t := (s.onAttention Attention.start).startSettling) ?_ ?_
  · simp [State.restart]
  · exact .congr_left (t := s.onAttention Attention.start) rfl rfl
      (State.keepsTable_of_narrows State.tableNarrows_startSettling)

theorem keepsTable_warmStart (s : State) (sprs adsel : Bool) : s.KeepsTable (s.warmStart sprs adsel) := by
  refine .congr_right (t := (s.onAttention Attention.start).startSettling) ?_ ?_
  · simp only [State.warmStart, State.supplyWarm, State.sequencerWarm]
    split <;> simp
  · exact .congr_left (t := s.onAttention Attention.start) rfl rfl
      (State.keepsTable_of_narrows State.tableNarrows_startSettling)

theorem keepsTable_setParam {q : Param} {v : Nat} (h : s.paramRefusal q v = none) :
    s.KeepsTable (s.setParam q (s.valueTaken q v)) := by
  cases q
  case mediaLimit =>
    have hv : s.valueTaken .mediaLimit v ≤ 4294967295 := by
      simp only [State.valueTaken, Param.clamp, Param.range]; omega
    have hlimit : s.limitRefused (s.valueTaken .mediaLimit v) = false := by
      simpa [State.paramRefusal, State.locked, Param.isTiming] using h
    exact fun hs _ => State.tableInOrder_setMediaLimit hs hv hlimit
  case unmappedPolicy => exact State.keepsTable_of_narrows fun _ => ⟨rfl, fun _ => .refl _⟩
  all_goals exact State.keepsTable_of_table_eq (by simp [State.setParam])

theorem keepsTable_serveSetParam (p : List Byte) (s : State) : s.KeepsTable (serveSetParam p s).1 := by
  unfold serveSetParam
  split
  · exact State.keepsTable_of_table_eq rfl
  · split
    · exact State.keepsTable_of_table_eq rfl
    · split
      · exact State.keepsTable_of_table_eq rfl
      next h => exact keepsTable_setParam h

theorem keepsTable_serveOpenSurvey (p : List Byte) (s : State) : s.KeepsTable (serveOpenSurvey p s).1 := by
  unfold serveOpenSurvey
  split
  · exact State.keepsTable_of_table_eq rfl
  next hp =>
    split
    · exact State.keepsTable_of_table_eq rfl
    · exact State.keepsTable_of_table_eq rfl
    next h _ => exact fun hs _ => State.tableInOrder_openIn hs (readOpen_number_le hp) h

theorem keepsTable_serveAddWindow (p : List Byte) (s : State) : s.KeepsTable (serveAddWindow p s).1 := by
  unfold serveAddWindow
  split
  · exact State.keepsTable_of_table_eq rfl
  · split
    · exact State.keepsTable_of_table_eq rfl
    next hcls =>
      refine .onSurvey fun i _ => ?_
      split
      · exact State.keepsTable_of_table_eq rfl
      next h => exact fun hs _ => State.tableInOrder_addWindow hs (Nat.not_lt.mp hcls) h

/-- R16: what every check of DROP-WINDOW having passed says. -/
theorem State.dropRefusal_eq_none_iff {i : Fin 64} :
    s.dropRefusal i = none ↔ (s.entry i).state = .opened ∧ 1 < (s.entry i).windows.length ∧
      s.grantIn i ((s.entry i).windows.length - 1) = false := by
  simp only [State.dropRefusal, ite_some_eq_none_iff, ne_eq, not_not, Nat.not_le, Bool.not_eq_true, and_true]

theorem keepsTable_serveDropWindow (p : List Byte) (s : State) : s.KeepsTable (serveDropWindow p s).1 := by
  unfold serveDropWindow
  split
  · exact State.keepsTable_of_table_eq rfl
  · refine .onSurvey fun i hi => ?_
    split
    · exact State.keepsTable_of_table_eq rfl
    · exact State.keepsTable_of_table_eq rfl
    next h _ =>
      obtain ⟨-, hlen, -⟩ := State.dropRefusal_eq_none_iff.mp h
      exact State.keepsTable_of_narrows fun _ => State.tableNarrows_modifyEntry (Entry.narrows_dropWindow hi hlen)

theorem keepsTable_serveRename (p : List Byte) (s : State) : s.KeepsTable (serveRename p s).1 := by
  unfold serveRename
  split
  · exact State.keepsTable_of_table_eq rfl
  · split
    · exact State.keepsTable_of_table_eq rfl
    next hl =>
      refine .onSurvey fun i hi => State.keepsTable_of_narrows fun _ => ?_
      exact State.tableNarrows_modifyEntry (Entry.narrows_relabel hi (Nat.not_lt.mp hl))

theorem keepsTable_sealAt (s : State) (i : Fin 64) (n : Nat) : s.KeepsTable (s.sealAt i n).1 := by
  unfold State.sealAt
  split
  next h =>
    have hlive : (s.entry i).state ≠ .free := by simp [h]
    split
    · exact State.keepsTable_of_narrows fun _ =>
        State.tableNarrows_modifyEntry (Entry.narrows_withState hlive (by simp) (by simp [h]) (by simp))
    · exact State.keepsTable_of_narrows fun _ => State.tableNarrows_sealEntry hlive
  all_goals exact State.keepsTable_of_table_eq rfl

theorem keepsTable_verifiedAt (s : State) (i : Fin 64) (n : Nat) : s.KeepsTable (s.verifiedAt i n).1 := by
  unfold State.verifiedAt
  split
  next h =>
    have hlive : (s.entry i).state ≠ .free := by simp [h]
    split
    · exact State.keepsTable_of_table_eq rfl
    · exact State.keepsTable_of_narrows fun _ => State.tableNarrows_modifyEntry (Entry.narrows_unmark hlive)
  next h =>
    have hlive : (s.entry i).state ≠ .free := by simp [h]
    split
    · exact State.keepsTable_of_table_eq rfl
    · refine State.keepsTable_of_narrows fun _ =>
        (State.tableNarrows_modifyEntry (Entry.narrows_unmark hlive)).trans (State.tableNarrows_sealEntry ?_)
      simpa [Entry.unmark] using hlive
  all_goals exact State.keepsTable_of_table_eq rfl

theorem keepsTable_reopenAt (s : State) (i : Fin 64) (n : Nat) : s.KeepsTable (s.reopenAt i n).1 := by
  unfold State.reopenAt
  split
  next h =>
    exact State.keepsTable_of_narrows fun _ =>
      State.tableNarrows_modifyEntry (Entry.narrows_withState (by simp [h]) (by simp) (by simp [h]) (by simp))
  all_goals exact State.keepsTable_of_table_eq rfl

theorem keepsTable_retireAt (s : State) (i : Fin 64) (n : Nat) : s.KeepsTable (s.retireAt i n).1 := by
  have hclear : s.KeepsTable (s.clearEntry i) := State.keepsTable_of_narrows fun _ => s.tableNarrows_clearEntry i
  have hwaits (h : (s.entry i).state = .opened ∨ (s.entry i).state = .closing) :
      s.KeepsTable (if s.named i = true then (s.modifyEntry i (Entry.withState .retiring)).openChanged.servedState i n
        else ((s.clearEntry i).openChanged, freedAnswer i n)).1 := by
    split
    · refine .congr_right (t := s.modifyEntry i (Entry.withState .retiring)) (by simp [State.servedState])
        (State.keepsTable_of_narrows fun _ => State.tableNarrows_modifyEntry ?_)
      rcases h with h | h <;> exact Entry.narrows_withState (by simp [h]) (by simp) (by simp [h]) (by simp)
    · exact hclear.congr_right (by simp)
  unfold State.retireAt
  split
  · exact State.keepsTable_of_table_eq rfl
  · split
    next => exact hclear
    next h => exact hwaits (.inl h)
    next h => exact hwaits (.inr h)
    all_goals exact State.keepsTable_of_table_eq rfl

theorem keepsTable_serveSeal (p : List Byte) (s : State) : s.KeepsTable (serveSeal p s).1 := by
  unfold serveSeal
  split
  · exact State.keepsTable_of_table_eq rfl
  · exact .onSurvey fun i _ => keepsTable_sealAt s i _

theorem keepsTable_serveVerified (p : List Byte) (s : State) : s.KeepsTable (serveVerified p s).1 := by
  unfold serveVerified
  split
  · exact State.keepsTable_of_table_eq rfl
  · exact .onSurvey fun i _ => keepsTable_verifiedAt s i _

theorem keepsTable_serveReopen (p : List Byte) (s : State) : s.KeepsTable (serveReopen p s).1 := by
  unfold serveReopen
  split
  · exact State.keepsTable_of_table_eq rfl
  · exact .onSurvey fun i _ => keepsTable_reopenAt s i _

theorem keepsTable_serveSetHold (p : List Byte) (s : State) : s.KeepsTable (serveSetHold p s).1 := by
  unfold serveSetHold
  split
  · exact State.keepsTable_of_table_eq rfl
  · refine .onSurvey fun i hi => State.keepsTable_of_narrows fun _ => ?_
    exact State.tableNarrows_modifyEntry (Entry.narrows_extendHold hi (Nat.min_le_right _ _))

theorem keepsTable_serveRetire (p : List Byte) (s : State) : s.KeepsTable (serveRetire p s).1 := by
  unfold serveRetire
  split
  · exact State.keepsTable_of_table_eq rfl
  · exact .onSurvey fun i _ => keepsTable_retireAt s i _

theorem keepsTable_serveRestore (p : List Byte) (s : State) : s.KeepsTable (serveRestore p s).1 := by
  unfold serveRestore
  split
  · exact State.keepsTable_of_table_eq rfl
  next hp =>
    split
    · exact State.keepsTable_of_table_eq rfl
    · exact State.keepsTable_of_table_eq rfl
    next h _ =>
      exact fun hs _ => State.tableInOrder_restore _ _ hs (readRestore_number_le hp) (fun _ hd => restoredHold_le hd) h

theorem keepsTable_grantOrHold (s : State) (slot : Option (Fin 64)) (window first count : Nat)
    (h : ∀ i, slot = some i → (s.entry i).state ≠ .free) : s.KeepsTable (s.grantOrHold slot window first count).1 := by
  unfold State.grantOrHold
  split
  · exact State.keepsTable_of_table_eq rfl
  · exact State.keepsTable_of_table_eq rfl
  · cases slot with
    | none => exact State.keepsTable_of_table_eq rfl
    | some i =>
      refine State.keepsTable_of_narrows fun _ => ?_
      exact (State.TableNarrows.of_table_eq (State.issueGrant_table ..)).trans
        (State.tableNarrows_modifyEntry (Entry.narrows_addIssued (h i rfl)))

theorem keepsTable_serveCheckWrite (p : List Byte) (s : State) : s.KeepsTable (serveCheckWrite p s).1 := by
  unfold serveCheckWrite State.checkRange State.checkCovered State.checkUncovered
  split
  · exact State.keepsTable_of_table_eq rfl
  next first count _ =>
    split
    · exact State.keepsTable_of_table_eq rfl
    · split
      · exact State.keepsTable_of_table_eq rfl
      · split
        next i k w _ =>
          split
          · exact State.keepsTable_of_table_eq rfl
          · split
            next h => exact keepsTable_grantOrHold s _ k first count (by rintro _ ⟨⟩; simp [h])
            · exact State.keepsTable_of_table_eq rfl
        next =>
          split
          · exact State.keepsTable_of_table_eq rfl
          · split
            · exact State.keepsTable_of_table_eq rfl
            · exact keepsTable_grantOrHold s none 0 first count (by rintro _ ⟨⟩)

theorem State.slots_of_grantOfTag {tag : Nat} {g : Grant} (h : s.grantOfTag tag = some g) :
    s.grants.slots[tagSlot tag] = some g := by
  unfold State.grantOfTag at h
  split at h
  · split at h
    · cases h; assumption
    · cases h
  · cases h

theorem keepsTable_serveWriteDone (p : List Byte) (s : State) : s.KeepsTable (serveWriteDone p s).1 := by
  unfold serveWriteDone
  split
  · exact State.keepsTable_of_table_eq rfl
  · split
    · exact State.keepsTable_of_table_eq rfl
    · split
      · exact State.keepsTable_of_table_eq rfl
      next g h =>
        exact State.keepsTable_of_narrows fun hg =>
          State.tableNarrows_removeGrant hg (State.slots_of_grantOfTag h) fun e he => Entry.narrows_doneEffect he _ _

theorem keepsTable_serveRestart (p : List Byte) (s : State) : s.KeepsTable (serveRestart p s).1 := by
  unfold serveRestart
  split
  · exact State.keepsTable_of_table_eq rfl
  · exact keepsTable_restart s

/-! ## The events -/

theorem keepsTable_expireGrant (s : State) (k : Fin 8) : s.KeepsTable (s.expireGrant k) := by
  unfold State.expireGrant
  split
  · exact State.keepsTable_of_table_eq rfl
  next g hk =>
    split
    · refine .congr_left (t := s.raise .expired) (by simp) (by simp) (State.keepsTable_of_narrows fun hg => ?_)
      exact State.tableNarrows_removeGrant hg hk fun e he => Entry.narrows_mark he
    · exact State.keepsTable_of_table_eq rfl

theorem keepsTable_refusedWrite (s : State) (c : Instr) (v : Verdict) (code : Code) (bytes : List Byte) :
    s.KeepsTable (s.refusedWrite c v code bytes) := by
  unfold State.refusedWrite
  split
  · exact .transfer fun b => State.keepsTable_of_table_eq (by simp)
  · exact State.keepsTable_of_table_eq rfl

theorem State.tableInOrder_cold (sprs adsel : Bool) (pins : Pins) (n : Nat) (q : List Instr) :
    (State.cold sprs adsel pins n q).tableInOrder := by
  have hentry (i : Fin 64) : (State.cold sprs adsel pins n q).entry i = Entry.cleared := by
    simp [State.entry, State.cold]
  refine ⟨fun i => ?_, fun i j n _ h => ?_, fun i w h => ?_, fun i j k l w v h => ?_, ?_, by simp [State.cold]⟩
  · rw [hentry]; exact Entry.inOrder_cleared
  · rw [hentry] at h; simp [Entry.cleared] at h
  · rw [hentry] at h; simp [Entry.cleared] at h
  · rw [hentry] at h; simp [Entry.cleared] at h
  · rw [State.heldSlots_eq_sum]; simp [hentry, Entry.cleared]

/-- Every command keeps the Survey Table in order. -/
theorem exec_keepsTable (c : Instr) (h : exec c s = .next t) : s.KeepsTable t := by
  have kept {f : State → State} (hf : (f s).table = s.table) : s.KeepsTable (s.event f) :=
    State.keepsTable_of_table_eq (s.event_table hf)
  have reported {serve : List Byte → State → Served} (hf : ∀ p (b : State), (serve p b).1.table = b.table)
      (c : Instr) (code : Byte) (p : List Byte) : s.KeepsTable (s.request c code p serve) :=
    .request (fun p b => State.keepsTable_of_table_eq (hf p b)) c code p
  cases c <;> cases h
  case readStatus => exact reported (fun p b => serveReadStatus_table b p) _ _ _
  case clearAttention => exact reported (fun p b => serveClearAttention_table b p) _ _ _
  case restart => exact .request keepsTable_serveRestart _ _ _
  case readParam => exact reported (fun p b => serveReadParam_table b p) _ _ _
  case setParam => exact .request keepsTable_serveSetParam _ _ _
  case readClock => exact reported (fun p b => serveReadClock_table b p) _ _ _
  case setClock => exact reported (fun p b => serveSetClock_table b p) _ _ _
  case openSurvey => exact .request keepsTable_serveOpenSurvey _ _ _
  case addWindow => exact .request keepsTable_serveAddWindow _ _ _
  case dropWindow => exact .request keepsTable_serveDropWindow _ _ _
  case findSurvey => exact reported (fun p b => serveFindSurvey_table b p) _ _ _
  case findBlock => exact reported (fun p b => serveFindBlock_table b p) _ _ _
  case readEntry => exact reported (fun p b => serveReadEntry_table b p) _ _ _
  case nextEntry => exact reported (fun p b => serveNextEntry_table b p) _ _ _
  case rename => exact .request keepsTable_serveRename _ _ _
  -- SEAL, whose name is a keyword of Lean, is the next command in order
  next => exact .request keepsTable_serveSeal _ _ _
  case verified => exact .request keepsTable_serveVerified _ _ _
  case reopen => exact .request keepsTable_serveReopen _ _ _
  case setHold => exact .request keepsTable_serveSetHold _ _ _
  case retire => exact .request keepsTable_serveRetire _ _ _
  case restore => exact .request keepsTable_serveRestore _ _ _
  case checkWrite => exact .request keepsTable_serveCheckWrite _ _ _
  case writeDone => exact .request keepsTable_serveWriteDone _ _ _
  case readGrants => exact reported (fun p b => serveReadGrants_table b p) _ _ _
  case readGuard => exact reported (fun p b => serveReadGuard_table b p) _ _ _
  case setTarget => exact reported (fun p b => serveSetTarget_table b p) _ _ _
  case readMechanism => exact reported (fun p b => serveReadMechanism_table b p) _ _ _
  case readGauge => exact reported (fun p b => serveReadGauge_table b p) _ _ _
  case setCharge => exact reported (fun p b => serveSetCharge_table b p) _ _ _
  case malformed => exact keepsTable_refusedWrite s _ _ _ _
  case unknown => exact keepsTable_refusedWrite s _ _ _ _
  case emptyWrite => exact .transfer fun b => State.keepsTable_of_table_eq rfl
  case addressMatch address dir =>
    split
    · exact State.keepsTable_of_table_eq rfl
    · exact State.keepsTable_of_table_eq (s.onBus_table (s.addressByte_table address dir) _)
  case answerFormed => exact kept s.answerFormed_table
  case answerRead => exact .transfer fun b => State.keepsTable_of_table_eq rfl
  case linkClear => exact State.keepsTable_of_table_eq (State.event_table (s.setLclr false) rfl)
  case linkClearRelease => exact State.keepsTable_of_table_eq rfl
  case sampleTimerExpiry => exact kept s.sampleExpiry_table
  case setupComplete => exact kept (s.setupEnds_table _)
  case readComplete => exact .event (.of_joltedTo (s.joltedTo_readEnds _))
  case settleTimerExpiry => exact kept s.settleExpiry_table
  case grantDeadlineExpiry slot => exact .event (keepsTable_expireGrant s slot)
  case supplySettleExpiry => exact kept (s.phaseExpiry_table s.supplySettles_table _)
  case spinTimeoutExpiry => exact kept (s.phaseExpiry_table s.spinTimesOut_table _)
  case unloadTimeExpiry => exact kept (s.phaseExpiry_table s.unloads_table _)
  case spinDownExpiry => exact kept (s.phaseExpiry_table s.enterCycleWait_table _)
  case cycleDelayExpiry => exact kept (s.phaseExpiry_table s.offReached_table _)
  case drdyAsserted =>
    exact State.keepsTable_of_table_eq ((s.setDrdy true).event_table (s.setDrdy true).drdyRises_table)
  case drdyReleased =>
    exact State.keepsTable_of_table_eq ((s.setDrdy false).event_table (s.setDrdy false).drdyFalls_table)
  case periodEnd code volts => exact kept (s.periodEnds_table code volts)
  case sprsChange present => exact kept (s.sprsChanges_table present)
  case dozeTimerExpiry => exact kept s.dozeExpiry_table
  case enterRetain => split <;> exact State.keepsTable_of_table_eq rfl
  case retainedContentsLoss => split <;> exact State.keepsTable_of_table_eq rfl
  case coldStart sprs adsel =>
    split
    · exact fun _ _ => State.tableInOrder_of_table_eq (by simp [State.coldStart])
        (State.tableInOrder_cold sprs adsel s.pins s.freeCount s.pending)
    · exact State.keepsTable_of_table_eq rfl
  case warmStart sprs adsel =>
    split
    · exact keepsTable_warmStart s sprs adsel
    · exact State.keepsTable_of_table_eq rfl
  case secondStep => split <;> exact State.keepsTable_of_table_eq rfl
  case wakingTransferEnd => exact State.keepsTable_of_table_eq (s.onBus_table s.wakingEnds_table _)

/-- Settles O54: a tick leaves the Survey Table as it is, and a command keeps it in order (`exec_keepsTable`). -/
theorem tableStaysInOrder : Obligations.TableStaysInOrder := by
  intro s t hs hg h
  unfold step at h
  split at h
  · cases h
    exact State.tableInOrder_of_table_eq s.tick_table hs
  next c rest _ => exact exec_keepsTable c h hs hg

end Sys2Proof.Machine

/-! The requests on the Survey Table: what each check says in the terms of Safety.lean, and what each request
answers and leaves. -/

namespace Sys2Proof.Machine

variable {s u : State} {a : Answer} {p : List Byte}

/-! ## A request heard in RUN, by its owning block's decision -/

/-- A request the port hears does what its owning block decides. -/
theorem serves_of_serve {c : Instr} {code : Byte} {serve : List Byte → State → Served}
    (he : exec c s = .next (s.request c code p serve)) (hu : Unlinked (serve p))
    (hc : requestCodes.contains code = true)
    (hl : s.listens) (hp : p.length ≤ 80) (h : serve p s = (u, a)) : Serves c s u a :=
  serves_of_request he hl hp hc hu (by rw [h]) (by rw [h])

section
variable (hl : s.listens) (hp : p.length ≤ 80)
include hl hp

theorem setParam_serves (h : serveSetParam p s = (u, a)) : Serves (.setParam p) s u a :=
  serves_of_serve rfl (unlinked_setParam p) (by decide) hl hp h
theorem openSurvey_serves (h : serveOpenSurvey p s = (u, a)) : Serves (.openSurvey p) s u a :=
  serves_of_serve rfl (unlinked_openSurvey p) (by decide) hl hp h
theorem addWindow_serves (h : serveAddWindow p s = (u, a)) : Serves (.addWindow p) s u a :=
  serves_of_serve rfl (unlinked_addWindow p) (by decide) hl hp h
theorem dropWindow_serves (h : serveDropWindow p s = (u, a)) : Serves (.dropWindow p) s u a :=
  serves_of_serve rfl (unlinked_dropWindow p) (by decide) hl hp h
theorem findSurvey_serves (h : serveFindSurvey p s = (u, a)) : Serves (.findSurvey p) s u a :=
  serves_of_serve rfl (unlinked_findSurvey p) (by decide) hl hp h
theorem findBlock_serves (h : serveFindBlock p s = (u, a)) : Serves (.findBlock p) s u a :=
  serves_of_serve rfl (unlinked_findBlock p) (by decide) hl hp h
theorem readEntry_serves (h : serveReadEntry p s = (u, a)) : Serves (.readEntry p) s u a :=
  serves_of_serve rfl (unlinked_readEntry p) (by decide) hl hp h
theorem nextEntry_serves (h : serveNextEntry p s = (u, a)) : Serves (.nextEntry p) s u a :=
  serves_of_serve rfl (unlinked_nextEntry p) (by decide) hl hp h
theorem rename_serves (h : serveRename p s = (u, a)) : Serves (.rename p) s u a :=
  serves_of_serve rfl (unlinked_rename p) (by decide) hl hp h
theorem seal_serves (h : serveSeal p s = (u, a)) : Serves (.seal p) s u a :=
  serves_of_serve rfl (unlinked_seal p) (by decide) hl hp h
theorem retire_serves (h : serveRetire p s = (u, a)) : Serves (.retire p) s u a :=
  serves_of_serve rfl (unlinked_retire p) (by decide) hl hp h
theorem restore_serves (h : serveRestore p s = (u, a)) : Serves (.restore p) s u a :=
  serves_of_serve rfl (unlinked_restore p) (by decide) hl hp h

end

/-! ## The payloads -/

theorem toNat_ofNat_length {α : Type} {l : List α} (h : l.length < 256) :
    (BitVec.ofNat 8 l.length).toNat = l.length := by
  simpa using h

theorem readLabel_cons {label : List Byte} (h : label.length < 256) :
    readLabel (BitVec.ofNat 8 label.length :: label) = some label := by
  simp [readLabel, Nat.mod_eq_of_lt h]

theorem readOpen_append {n1 n0 b3 b2 b1 b0 c : Byte} {label : List Byte} (h : label.length < 256) :
    readOpen ([n1, n0, b3, b2, b1, b0, c, BitVec.ofNat 8 label.length] ++ label) =
      some (nat2 n1 n0, { base := nat4 b3 b2 b1 b0, cls := c.toNat }, label) := by
  simp only [List.cons_append, List.nil_append, readOpen, readLabel_cons h, Option.map_some]

theorem readRename_append {n1 n0 : Byte} {label : List Byte} (h : label.length < 256) :
    readRename ([n1, n0, BitVec.ofNat 8 label.length] ++ label) = some (nat2 n1 n0, label) := by
  simp only [List.cons_append, List.nil_append, readRename, readLabel_cons h, Option.map_some]

/-! ## The checks of one window (R5, R7) -/

theorem Window.not_misaligned {w : Window} (h : w.fits) : ¬ w.aligned = false := by
  rwa [Window.aligned_eq_false_iff, not_not]

theorem Window.limit_lt_last_iff {w : Window} {limit : Nat} : limit < w.last ↔ ¬ w.within limit := by
  rw [Window.within_iff, Nat.not_le]

theorem Window.limit_not_lt_last {w : Window} {limit : Nat} (h : w.within limit) : ¬ limit < w.last := by
  rwa [Window.limit_lt_last_iff, not_not]

/-! ## OPEN-SURVEY -/

/-- R11: the first failing check, in the order of its rows. -/
theorem State.openRefusal_badArg {n : Nat} {w : Window} {label : List Byte}
    (h : n = 0 ∨ 19 < w.cls ∨ 16 < label.length) : s.openRefusal n w label = some .badArg :=
  if_pos h

section
variable {n : Nat} {w : Window} {label : List Byte} (hn : n ≠ 0) (hc : w.cls ≤ 19) (hl : label.length ≤ 16)
include hn hc hl

theorem State.openRefusal_exists (h : ¬ s.unheld n) : s.openRefusal n w label = some .exists := by
  rw [State.openRefusal, if_neg (by unfold Config.maxClass Config.maxLabel; omega),
    if_pos (State.findSurvey_isSome_of_held h)]

/-- The checks of the window are those of R11 after EXISTS. -/
theorem State.openRefusal_of_unheld (h : s.unheld n) :
    s.openRefusal n w label =
      if w.aligned = false then some .misaligned
      else if s.table.mediaLimit < w.last then some .outOfRange
      else if s.overlapsLive w then some .overlap
      else if s.lowestFree.isNone ∨ s.freePool = 0 then some .full
      else if s.reserveRefuses then some .reserve
      else none := by
  rw [State.openRefusal, if_neg (by unfold Config.maxClass Config.maxLabel; omega),
    if_neg (by simp [State.findSurvey_of_unheld h])]

theorem State.openRefusal_misaligned (h : s.unheld n) (hf : ¬ w.fits) : s.openRefusal n w label = some .misaligned := by
  rw [State.openRefusal_of_unheld hn hc hl h, if_pos ((Window.aligned_eq_false_iff w).mpr hf)]

variable (h : s.unheld n) (hf : w.fits)
include h hf

theorem State.openRefusal_outOfRange (hr : ¬ w.within s.table.mediaLimit) :
    s.openRefusal n w label = some .outOfRange := by
  rw [State.openRefusal_of_unheld hn hc hl h, if_neg (Window.not_misaligned hf),
    if_pos (Window.limit_lt_last_iff.mpr hr)]

variable (hr : w.within s.table.mediaLimit)
include hr

theorem State.openRefusal_overlap (ho : s.shares w) : s.openRefusal n w label = some .overlap := by
  rw [State.openRefusal_of_unheld hn hc hl h, if_neg (Window.not_misaligned hf),
    if_neg (Window.limit_not_lt_last hr), if_pos ((State.overlapsLive_iff w).mpr ho)]

variable (ho : ¬ s.shares w)
include ho

theorem State.openRefusal_full (hp : (∀ i, (s.entry i).state ≠ .free) ∨ 192 ≤ s.heldSlots) :
    s.openRefusal n w label = some .full := by
  rw [State.openRefusal_of_unheld hn hc hl h, if_neg (Window.not_misaligned hf),
    if_neg (Window.limit_not_lt_last hr), if_neg (by rwa [State.overlapsLive_iff]), if_pos]
  rcases hp with hp | hp
  · exact .inl (by rw [State.lowestFree_of_full hp]; rfl)
  · exact .inr (State.freePool_eq_zero_iff.mpr hp)

theorem State.openRefusal_reserve (hs : ∃ i, (s.entry i).state = .free) (hp : s.heldSlots < 192)
    (hb : s.supply.present = false) (hb' : s.supply.level ≠ .ample) : s.openRefusal n w label = some .reserve := by
  rw [State.openRefusal_of_unheld hn hc hl h, if_neg (Window.not_misaligned hf),
    if_neg (Window.limit_not_lt_last hr), if_neg (by rwa [State.overlapsLive_iff]), if_neg,
    if_pos (State.reserveRefuses_eq_true_iff.mpr ⟨hb, hb'⟩)]
  rw [State.freePool_eq_zero_iff, Option.isNone_iff_eq_none, ← Option.not_isSome_iff_eq_none]
  simp [State.lowestFree_isSome hs, hp]

end

theorem serveOpenSurvey_of_refusal {n : Nat} {w : Window} {label : List Byte} {c : Code}
    (hp : readOpen p = some (n, w, label)) (h : s.openRefusal n w label = some c) :
    serveOpenSurvey p s = (s, refusal c) := by
  simp [serveOpenSurvey, hp, h, State.unchanged]

theorem serveOpenSurvey_of_accepted {n : Nat} {w : Window} {label : List Byte} {i : Fin 64}
    (hp : readOpen p = some (n, w, label)) (h : s.openRefusal n w label = none) (hi : s.lowestFree = some i) :
    serveOpenSurvey p s = (s.openIn i n w label, okAnswer (be1 i ++ be1 (s.openIn i n w label).freePool)) := by
  simp [serveOpenSurvey, hp, h, hi]

/-- Settles O20: each refusal of R11 by the row of `State.openRefusal` it meets first. -/
theorem openSurveyIsRefused : Obligations.OpenSurveyIsRefused := by
  intro s n1 n0 b3 b2 b1 b0 c label hs hlen payload number w refuses
  have hread : readOpen payload = some (number, w, label) := readOpen_append (by omega)
  have hpay : payload.length ≤ 80 := by simp [payload]; omega
  have refuse {code : Code} (h : s.openRefusal number w label = some code) : refuses code :=
    openSurvey_serves hs hpay (serveOpenSurvey_of_refusal hread h)
  refine ⟨fun h => refuse (State.openRefusal_badArg h), fun hn hc hl => ⟨?_, ?_, ?_, ?_, ?_, ?_⟩⟩
  · exact fun h => refuse (State.openRefusal_exists hn hc hl h)
  · exact fun h hf => refuse (State.openRefusal_misaligned hn hc hl h hf)
  · exact fun h hf hr => refuse (State.openRefusal_outOfRange hn hc hl h hf hr)
  · exact fun h hf hr ho => refuse (State.openRefusal_overlap hn hc hl h hf hr ho)
  · exact fun h hf hr ho hp => refuse (State.openRefusal_full hn hc hl h hf hr ho hp)
  · exact fun h hf hr ho hi hp hb hb' => refuse (State.openRefusal_reserve hn hc hl h hf hr ho hi hp hb hb')

theorem State.freePool_congr {t : State} (h : t.table = s.table) : t.freePool = s.freePool := by
  simp only [State.freePool, State.heldSlots, h]

/-- The pool after a record with n windows was written over one with none. -/
theorem State.freePool_setEntry {i : Fin 64} {e : Entry} (hi : (s.entry i).windows = []) :
    (s.setEntry i e).freePool = 192 - (s.heldSlots + e.windows.length) := by
  have h := State.heldSlots_setEntry (s := s) i e
  rw [hi, List.length_nil] at h
  rw [State.freePool_eq]
  omega

/-- Settles O21: with every check passed (`State.openRefusal_eq_none_iff`) the entry is built in the lowest FREE
slot. -/
theorem openSurveyBuildsTheEntry : Obligations.OpenSurveyBuildsTheEntry := by
  intro s n1 n0 b3 b2 b1 b0 c label i hs hlen w hn hc hu hf hr ho hi hw hp hb
  have hread := readOpen_append (n1 := n1) (n0 := n0) (b3 := b3) (b2 := b2) (b1 := b1) (b0 := b0) (c := c)
    (label := label) (by omega)
  have hlow := State.lowestFree_of_isLowestFree hi
  have hreserve : s.reserveRefuses = false := by
    rcases hb with hb | hb <;> simp [State.reserveRefuses, hb]
  have haccept : s.openRefusal (nat2 n1 n0) w label = none :=
    State.openRefusal_eq_none_iff.mpr ⟨⟨hn, hc, hlen⟩, hu, hf, hr, ho, ⟨by simp [hlow], hp⟩, hreserve⟩
  have hpool : (s.openIn i (nat2 n1 n0) w label).freePool = 191 - s.heldSlots := by
    rw [State.openIn, State.freePool_congr (State.openChanged_table _), State.freePool_setEntry hw]
    simp only [Entry.openedAs, List.length_singleton]
    omega
  refine openSurvey_serves hs (by simp; omega) ?_
  rw [serveOpenSurvey_of_accepted hread haccept hlow, hpool]
  rfl

/-! ## Requests naming one entry -/

theorem State.onSurvey_zero (act : Fin 64 → Served) : s.onSurvey 0 act = (s, refusal .badArg) := if_pos rfl

theorem State.onSurvey_unheld {n : Nat} (act : Fin 64 → Served) (hn : n ≠ 0) (h : s.unheld n) :
    s.onSurvey n act = (s, refusal .notFound) := by
  simp [State.onSurvey, hn, State.findSurvey_of_unheld h, State.unchanged]

theorem State.onSurvey_holds {n : Nat} {i : Fin 64} (act : Fin 64 → Served) (h : s.holds i n) :
    s.onSurvey n act = act i := by
  simp [State.onSurvey, h.1, State.findSurvey_of_holds h]

/-! ## ADD-WINDOW -/

section
variable {i : Fin 64} {w : Window}

theorem State.addRefusal_badState (h : (s.entry i).state ≠ .opened) : s.addRefusal i w = some .badState := if_pos h

variable (h : (s.entry i).state = .opened)
include h

theorem State.addRefusal_misaligned (hf : ¬ w.fits) : s.addRefusal i w = some .misaligned := by
  rw [State.addRefusal, if_neg (not_not.mpr h), if_pos ((Window.aligned_eq_false_iff w).mpr hf)]

variable (hf : w.fits)
include hf

theorem State.addRefusal_outOfRange (hr : ¬ w.within s.table.mediaLimit) : s.addRefusal i w = some .outOfRange := by
  rw [State.addRefusal, if_neg (not_not.mpr h), if_neg (Window.not_misaligned hf),
    if_pos (Window.limit_lt_last_iff.mpr hr)]

variable (hr : w.within s.table.mediaLimit)
include hr

theorem State.addRefusal_overlap (ho : s.shares w) : s.addRefusal i w = some .overlap := by
  rw [State.addRefusal, if_neg (not_not.mpr h), if_neg (Window.not_misaligned hf),
    if_neg (Window.limit_not_lt_last hr), if_pos ((State.overlapsLive_iff w).mpr ho)]

theorem State.addRefusal_full (ho : ¬ s.shares w) (hp : 8 ≤ (s.entry i).windows.length ∨ 192 ≤ s.heldSlots) :
    s.addRefusal i w = some .full := by
  rw [State.addRefusal, if_neg (not_not.mpr h), if_neg (Window.not_misaligned hf),
    if_neg (Window.limit_not_lt_last hr), if_neg (by rwa [State.overlapsLive_iff])]
  exact if_pos (hp.imp id State.freePool_eq_zero_iff.mpr)

end

/-- Settles O22: the rows of R14 in their order, and the appended window. -/
theorem addWindowAppends : Obligations.AddWindowAppends := by
  intro s n1 n0 b3 b2 b1 b0 c i hs payload number w refuses n
  have hpay : payload.length ≤ 80 := by simp [payload]
  have hserve (hc : w.cls ≤ 19) : serveAddWindow payload s = s.onSurvey number fun i =>
      match s.addRefusal i w with
      | some c => s.unchanged (refusal c)
      | none =>
        let t := s.modifyEntry i (Entry.addWindow w)
        (t, okAnswer (be1 (s.entry i).windows.length ++ be1 t.freePool)) :=
    if_neg (Nat.not_lt.mpr hc)
  refine ⟨?_, fun hn hc hu => ?_, fun hc hi => ?_⟩
  · intro h
    refine addWindow_serves hs hpay ?_
    by_cases hc : w.cls ≤ 19
    · have hn : number = 0 := by omega
      rw [hserve hc, hn, State.onSurvey_zero]
      rfl
    · exact if_pos (Nat.not_le.mp hc)
  · exact addWindow_serves hs hpay (by rw [hserve hc, State.onSurvey_unheld _ hn hu]; rfl)
  · have refuse {code : Code} (h : s.addRefusal i w = some code) : refuses code :=
      addWindow_serves hs hpay (by rw [hserve hc, State.onSurvey_holds _ hi, h]; rfl)
    refine ⟨?_, ?_, ?_, ?_, ?_, ?_⟩
    · exact fun h => refuse (State.addRefusal_badState h)
    · exact fun h hf => refuse (State.addRefusal_misaligned h hf)
    · exact fun h hf hr => refuse (State.addRefusal_outOfRange h hf hr)
    · exact fun h hf hr ho => refuse (State.addRefusal_overlap h hf hr ho)
    · exact fun h hf hr ho hp => refuse (State.addRefusal_full h hf hr ho hp)
    · intro h hf hr ho hn hp
      have hpool : (s.modifyEntry i (Entry.addWindow w)).freePool = 191 - s.heldSlots := by
        have := State.heldSlots_modifyEntry (s := s) i (Entry.addWindow w)
        simp only [Entry.addWindow, List.length_append, List.length_singleton] at this
        rw [State.freePool_eq]
        omega
      refine addWindow_serves hs hpay ?_
      rw [hserve hc, State.onSurvey_holds _ hi, State.addRefusal_eq_none_iff.mpr ⟨h, hf, hr, ho, hn, hp⟩]
      exact congrArg (fun k => (_, okAnswer (be1 n ++ be1 k))) hpool

/-! ## DROP-WINDOW -/

theorem State.grantIn_iff {i : Fin 64} {k : Nat} :
    s.grantIn i k = true ↔ ∃ (j : Fin 8) (g : Grant), s.grants.slots[j] = some g ∧ g.entry = some i ∧ g.window = k := by
  simp only [State.grantIn, State.grantList, List.any_eq_true, List.mem_filterMap, id_eq, Bool.and_eq_true, beq_iff_eq,
    exists_eq_right]
  constructor
  · rintro ⟨g, hg, hi, hk⟩
    obtain ⟨j, hj, he⟩ := List.mem_iff_getElem.mp hg
    exact ⟨⟨j, by simpa using hj⟩, g, by simpa using he, hi, hk⟩
  · rintro ⟨j, g, hg, hi, hk⟩
    exact ⟨g, by rw [← hg]; simp, hi, hk⟩

/-- Settles O23: the rows of R16, and the last window taken off. -/
theorem dropWindowTakesTheLast : Obligations.DropWindowTakesTheLast := by
  intro s n1 n0 i hs number refuses grantInLast
  have hpay : [n1, n0].length ≤ 80 := by simp
  have hserve : serveDropWindow [n1, n0] s = s.onSurvey number fun i =>
      match s.dropRefusal i, (s.entry i).windows.getLast? with
      | some c, _ => s.unchanged (refusal c)
      | none, none => s.unchanged (refusal .badState)
      | none, some w =>
        let t := s.modifyEntry i Entry.dropWindow
        (t, okAnswer (w.bytes ++ be1 t.freePool)) := rfl
  refine ⟨fun hn => ?_, fun hn hu => ?_, fun hi => ⟨fun h => ?_, fun h hg ws w hne hw hheld => ?_⟩⟩
  · exact dropWindow_serves hs hpay (by rw [hserve, hn, State.onSurvey_zero]; rfl)
  · exact dropWindow_serves hs hpay (State.onSurvey_unheld _ hn hu)
  · have hrefuse : s.dropRefusal i = some .badState := by
      unfold State.dropRefusal
      by_cases ho : (s.entry i).state = .opened
      · by_cases hlen : (s.entry i).windows.length ≤ 1
        · simp [ho, hlen]
        · rcases h with h | h | ⟨k, g, hk, hg, hw⟩
          · exact absurd ho h
          · omega
          · have : s.grantIn i ((s.entry i).windows.length - 1) = true :=
              State.grantIn_iff.mpr ⟨k, g, hk, hg, by omega⟩
            simp [ho, hlen, this]
      · simp [ho]
    exact dropWindow_serves hs hpay (by rw [hserve, State.onSurvey_holds _ hi, hrefuse]; rfl)
  · have hlen : (s.entry i).windows.length = ws.length + 1 := by simp [hw]
    have hpos : 0 < ws.length := List.length_pos_iff.mpr hne
    have hgrant : s.grantIn i ((s.entry i).windows.length - 1) = false := by
      rw [← Bool.not_eq_true, State.grantIn_iff]
      rintro ⟨k, g, hk, hgi, hgw⟩
      exact hg ⟨k, g, hk, hgi, by omega⟩
    have hnone : s.dropRefusal i = none := State.dropRefusal_eq_none_iff.mpr ⟨h, by omega, hgrant⟩
    have hlast : (s.entry i).windows.getLast? = some w := by simp [hw]
    have hdrop : s.modifyEntry i Entry.dropWindow = s.modifyEntry i fun e => { e with windows := ws } := by
      simp only [State.modifyEntry, Entry.dropWindow, hw, List.dropLast_concat]
    have hpool : (s.modifyEntry i fun e => { e with windows := ws }).freePool = 193 - s.heldSlots := by
      have : (s.modifyEntry i fun e => { e with windows := ws }).heldSlots + (s.entry i).windows.length =
          s.heldSlots + ws.length := State.heldSlots_modifyEntry i _
      rw [State.freePool_eq]
      omega
    refine dropWindow_serves hs hpay ?_
    rw [hserve, State.onSurvey_holds _ hi, hnone, hlast]
    simp only [hdrop, hpool, Window.bytes]

end Sys2Proof.Machine

/-! The reports of the Survey Table, RENAME, and the custody of an entry: SEAL, RETIRE and RESTORE. -/

namespace Sys2Proof.Machine

variable {s u : State} {a : Answer} {p : List Byte}

/-! ## The entry report -/

theorem holdRemaining_eq (hold : Option Nat) (now : Nat) :
    holdRemaining hold now = match hold with
      | some d => if now < d then d - now else 0
      | none => 0 := by
  cases hold with
  | none => rfl
  | some d => simp only [holdRemaining]; split <;> omega

theorem Entry.flags_eq (e : Entry) :
    e.flags = (if e.verify then 1 else 0) + (if e.sealed = none then 0 else 2) + (if e.hold = none then 0 else 4) := by
  unfold Entry.flags flag
  cases e.sealed <;> cases e.hold <;> simp

/-- Settles O24: both requests give `State.entryReport`, whose fields are those of R22. -/
theorem entriesAreReported : Obligations.EntriesAreReported := by
  intro s n1 n0 b i hs e hold report
  have hreport : s.entryReport i = report := by
    simp only [State.entryReport, Entry.flags_eq, holdRemaining_eq]
    rfl
  have hfind : serveFindSurvey [n1, n0] s =
      s.onSurvey (nat2 n1 n0) fun i => s.unchanged (okAnswer (s.entryReport i)) := rfl
  have hread (h : b.toNat = i) : serveReadEntry [b] s =
      if e.live then s.unchanged (okAnswer (s.entryReport i)) else s.unchanged (refusal .notFound) := by
    have hi : (⟨b.toNat, by omega⟩ : Fin 64) = i := Fin.ext h
    simp only [serveReadEntry, readByte, dif_pos (show b.toNat < 64 by omega), hi]
    rfl
  refine ⟨fun hi => ?_, fun hn => ?_, fun hn hu => ?_, fun hb he => ?_, fun hb he => ?_, fun hb => ?_⟩
  · exact findSurvey_serves hs (by simp) (by rw [hfind, State.onSurvey_holds _ hi, hreport]; rfl)
  · exact findSurvey_serves hs (by simp) (by rw [hfind, hn, State.onSurvey_zero]; rfl)
  · exact findSurvey_serves hs (by simp) (by rw [hfind, State.onSurvey_unheld _ hn hu]; rfl)
  · exact readEntry_serves hs (by simp) (by rw [hread hb, if_pos ((Entry.live_iff e).mpr he), hreport]; rfl)
  · exact readEntry_serves hs (by simp) (by rw [hread hb, if_neg (by simp [Entry.live_iff, he])]; rfl)
  · exact readEntry_serves hs (by simp) (dif_neg (by omega))

/-! ## FIND-BLOCK and NEXT-ENTRY -/

theorem State.nextLive_eq_some {n : Nat} {i : Fin 64} (hi : (s.entry i).state ≠ .free) (hn : n = 255 ∨ n < i)
    (h : ∀ j, j < i → (n = 255 ∨ n < j) → (s.entry j).state = .free) : s.nextLive n = some i := by
  refine finRange_find?_eq_some _ i ?_ fun j hj => ?_
  · simpa [Entry.live, hi] using hn
  · by_cases hnj : n = 255 ∨ n < j
    · simp [Entry.live, h j hj hnj]
    · have : ¬ n = 255 ∧ ¬ n < j := not_or.mp hnj
      simp [this]

theorem State.nextLive_eq_none {n : Nat} (h : ∀ j : Fin 64, (n = 255 ∨ n < j) → (s.entry j).state = .free) :
    s.nextLive n = none := by
  refine finRange_find?_eq_none _ fun j => ?_
  by_cases hnj : n = 255 ∨ n < j
  · simp [Entry.live, h j hnj]
  · have : ¬ n = 255 ∧ ¬ n < j := not_or.mp hnj
    simp [this]

/-- Settles O25, by the range lookup (`State.lookup_of_coveredBy`) and the search of the live slots. -/
theorem blocksAndSlotsAreFound : Obligations.BlocksAndSlotsAreFound := by
  refine ⟨fun s b3 b2 b1 b0 i k w hs => ⟨fun h => ?_, fun h => ?_⟩, fun s b i hs => ?_⟩
  · refine findBlock_serves hs (by simp) ?_
    simp [serveFindBlock, readFour, State.lookup_of_coveredBy h, State.blockReport, Window.bytes, State.unchanged]
  · exact findBlock_serves hs (by simp) (by simp [serveFindBlock, readFour, State.lookup_of_uncovered h]; rfl)
  · have hnext (h : b.toNat < 64 ∨ b.toNat = 255) : serveNextEntry [b] s = match s.nextLive b.toNat with
        | none => s.unchanged (refusal .notFound)
        | some i => s.unchanged (okAnswer (be1 i ++ be1 (s.entry i).state.code ++ be2 ((s.entry i).number.getD 0))) :=
      if_neg (by omega)
    refine ⟨fun h1 h2 => ?_, fun hb => ⟨fun hi hlt h => ?_, fun h => ?_⟩⟩
    · exact nextEntry_serves hs (by simp) (if_pos ⟨h1, by omega⟩)
    · exact nextEntry_serves hs (by simp) (by rw [hnext hb, State.nextLive_eq_some hi hlt h]; rfl)
    · exact nextEntry_serves hs (by simp) (by rw [hnext hb, State.nextLive_eq_none h]; rfl)

/-! ## RENAME -/

/-- Settles O26, by the payload (`readRename_append`) and what `State.onSurvey` does with the survey number. -/
theorem renameReplacesTheLabel : Obligations.RenameReplacesTheLabel := by
  intro s n1 n0 label i hs hlen payload
  have hpay : payload.length ≤ 80 := by simp [payload]; omega
  have hread : readRename payload = some (nat2 n1 n0, label) := readRename_append (by omega)
  have hserve (hl : label.length ≤ 16) : serveRename payload s =
      s.onSurvey (nat2 n1 n0) fun i => (s.modifyEntry i (Entry.relabel label), okAnswer []) := by
    simp only [serveRename, hread]
    exact if_neg (Nat.not_lt.mpr hl)
  refine ⟨fun h => ?_, fun hn hl hu => ?_, fun hl hi => ?_⟩
  · refine rename_serves hs hpay ?_
    by_cases hl : label.length ≤ 16
    · rw [hserve hl, h.resolve_right (Nat.not_lt.mpr hl), State.onSurvey_zero]
      rfl
    · simp only [serveRename, hread]
      exact if_pos (Nat.not_le.mp hl)
  · exact rename_serves hs hpay (by rw [hserve hl, State.onSurvey_unheld _ hn hu]; rfl)
  · exact rename_serves hs hpay (by rw [hserve hl, State.onSurvey_holds _ hi]; rfl)

/-! ## The state answer -/

theorem be2_nat2 (b1 b0 : Byte) : be2 (nat2 b1 b0) = [b1, b0] := by
  have h1 := b1.isLt
  have h0 := b0.isLt
  have e1 : nat2 b1 b0 / 256 = b1.toNat := by unfold nat2; omega
  have e0 : nat2 b1 b0 % 256 = b0.toNat := by unfold nat2; omega
  simp only [be2, List.cons.injEq, and_true]
  exact ⟨by rw [e1, BitVec.ofNat_toNat, BitVec.setWidth_eq],
    BitVec.eq_of_toNat_eq (by rw [BitVec.toNat_ofNat]; exact e0)⟩

/-- R54: the state answer of a state with these grants and this record in the slot. -/
theorem State.stateAnswer_of {t : State} {i : Fin 64} {e : Entry} (n1 n0 : Byte) (hg : t.grants = s.grants)
    (he : t.entry i = e) :
    t.stateAnswer i (nat2 n1 n0) =
      okAnswer ([BitVec.ofNat 8 i.val, n1, n0, BitVec.ofNat 8 e.state.code, if e.verify then 1 else 0] ++
        be1 (s.outstanding i)) := by
  have hverify : be1 (flag e.verify) = [if e.verify then 1 else 0] := by
    cases e.verify <;> rfl
  rw [State.stateAnswer, be2_nat2, he, hverify, State.outstanding, hg]
  rfl

theorem freedAnswer_eq (i : Fin 64) (n1 n0 : Byte) :
    freedAnswer i (nat2 n1 n0) = okAnswer [BitVec.ofNat 8 i.val, n1, n0, 0, 0, 0] := by
  rw [freedAnswer, be2_nat2]
  rfl

/-! ## SEAL -/

theorem State.sealEntry_of_opened {i : Fin 64} (h : (s.entry i).state = .opened) :
    s.sealEntry i =
      (s.modifyEntry i fun e => { e with state := .sealed, sealed := some s.clock.driveClock }).openChanged := by
  simp [State.sealEntry, h]

section
variable {i : Fin 64} (n : Nat)

theorem State.sealAt_opened (h : (s.entry i).state = .opened) :
    s.sealAt i n =
      if s.named i || (s.entry i).verify then (s.modifyEntry i (Entry.withState .closing)).servedState i n
      else (s.sealEntry i).servedState i n := by
  simp only [State.sealAt, h]

theorem State.sealAt_closing (h : (s.entry i).state = .closing) : s.sealAt i n = s.servedState i n := by
  simp only [State.sealAt, h]

theorem State.sealAt_badState (h : (s.entry i).state = .sealed ∨ (s.entry i).state = .retiring) :
    s.sealAt i n = (s, refusal .badState) := by
  rcases h with h | h <;> simp only [State.sealAt, h, State.unchanged]

end

theorem State.entry_openChanged (s : State) (i : Fin 64) : s.openChanged.entry i = s.entry i :=
  State.entry_congr (by simp) i

/-- Settles O27: SEAL by the state of the entry (`State.sealAt`). -/
theorem sealActsOnTheState : Obligations.SealActsOnTheState := by
  intro s n1 n0 i hs number e answer
  have hpay : [n1, n0].length ≤ 80 := by simp
  have hserve : serveSeal [n1, n0] s = s.onSurvey number fun i => s.sealAt i number := rfl
  refine ⟨fun hn => ?_, fun hn hu => ?_, fun hi => ?_⟩
  · exact seal_serves hs hpay (by rw [hserve, hn, State.onSurvey_zero]; rfl)
  · exact seal_serves hs hpay (by rw [hserve, State.onSurvey_unheld _ hn hu]; rfl)
  · have hat {u : State} {a : Answer} (h : s.sealAt i number = (u, a)) : Serves (.seal [n1, n0]) s u a :=
      seal_serves hs hpay (by rw [hserve, State.onSurvey_holds _ hi, h])
    refine ⟨fun ho hg hv => hat ?_, fun ho h => hat ?_, fun hc => hat ?_, fun h => hat ?_⟩
    · rw [State.sealAt_opened _ ho, if_neg (by simp [State.not_named hg, show (s.entry i).verify = false from hv]),
        State.sealEntry_of_opened ho, State.servedState,
        State.stateAnswer_of (s := s) (i := i) n1 n0 (by simp)
          ((State.entry_openChanged _ i).trans (s.entry_modifyEntry_same i _)),
        State.outstanding_eq_zero hg]
      simp only [show (s.entry i).verify = false from hv]
      rfl
    · rw [State.sealAt_opened _ ho, if_pos (by simpa [State.named_iff] using h), State.servedState,
        State.stateAnswer_of (s := s) n1 n0 (by simp) (s.entry_modifyEntry_same i _)]
      rfl
    · rw [State.sealAt_closing _ hc, State.servedState, State.stateAnswer_of (s := s) n1 n0 rfl rfl,
        show (s.entry i).state = .closing from hc]
      rfl
    · exact State.sealAt_badState _ h

/-! ## RETIRE -/

theorem holdInForce_iff {hold : Option Nat} {now : Nat} :
    holdInForce hold now = true ↔ ∃ d, hold = some d ∧ now < d := by
  cases hold <;> simp [holdInForce]

section
variable {i : Fin 64} (n : Nat)

theorem State.retireAt_held (h : holdInForce (s.entry i).hold s.clock.runSeconds = true) :
    s.retireAt i n = (s, refusal .held) :=
  if_pos h

variable (hh : ¬ holdInForce (s.entry i).hold s.clock.runSeconds = true)
include hh

theorem State.retireAt_sealed (h : (s.entry i).state = .sealed) :
    s.retireAt i n = (s.clearEntry i, freedAnswer i n) := by
  simp only [State.retireAt, if_neg hh, h]

theorem State.retireAt_retiring (h : (s.entry i).state = .retiring) : s.retireAt i n = (s, refusal .badState) := by
  simp only [State.retireAt, if_neg hh, h, State.unchanged]

theorem State.retireAt_counted (h : (s.entry i).state = .opened ∨ (s.entry i).state = .closing) :
    s.retireAt i n =
      if s.named i then (s.modifyEntry i (Entry.withState .retiring)).openChanged.servedState i n
      else ((s.clearEntry i).openChanged, freedAnswer i n) := by
  rcases h with h | h <;> simp only [State.retireAt, if_neg hh, h]

end

/-- Settles O30: RETIRE by the hold and the state of the entry (`State.retireAt`). -/
theorem retireFreesOrWaits : Obligations.RetireFreesOrWaits := by
  intro s n1 n0 i hs number e held freed cleared
  have hpay : [n1, n0].length ≤ 80 := by simp
  have hserve : serveRetire [n1, n0] s = s.onSurvey number fun i => s.retireAt i number := rfl
  refine ⟨fun hn => ?_, fun hn hu => ?_, fun hi => ?_⟩
  · exact retire_serves hs hpay (by rw [hserve, hn, State.onSurvey_zero]; rfl)
  · exact retire_serves hs hpay (by rw [hserve, State.onSurvey_unheld _ hn hu]; rfl)
  · have hat {u : State} {a : Answer} (h : s.retireAt i number = (u, a)) : Serves (.retire [n1, n0]) s u a :=
      retire_serves hs hpay (by rw [hserve, State.onSurvey_holds _ hi, h])
    refine ⟨fun hh => hat ?_, fun hh h => hat ?_, fun hh h => hat ?_, fun hh h hg => hat ?_, fun hh h hg => hat ?_⟩
    · exact State.retireAt_held _ (holdInForce_iff.mpr hh)
    · exact State.retireAt_retiring _ (mt holdInForce_iff.mp hh) h
    · rw [State.retireAt_sealed _ (mt holdInForce_iff.mp hh) h, freedAnswer_eq]
      rfl
    · rw [State.retireAt_counted _ (mt holdInForce_iff.mp hh) h, State.not_named hg, freedAnswer_eq]
      rfl
    · rw [State.retireAt_counted _ (mt holdInForce_iff.mp hh) h, if_pos (State.named_iff.mpr hg), State.servedState,
        State.stateAnswer_of (s := s) (i := i) n1 n0 (by simp)
          ((State.entry_openChanged _ i).trans (s.entry_modifyEntry_same i _))]
      rfl

end Sys2Proof.Machine

/-! RESTORE: its payload, the checks of R72 in their order, and the entry it builds. -/

namespace Sys2Proof.Machine

variable {s : State} {p : List Byte} {n : Nat} {label : List Byte} {ws : List Window}

/-! ## The payload -/

/-- The five bytes of a listed window (R201). -/
abbrev WindowBytes := Byte × Byte × Byte × Byte × Byte

/-- A listed window as it stands in the payload. -/
def WindowBytes.bytes : WindowBytes → List Byte
  | (b3, b2, b1, b0, c) => [b3, b2, b1, b0, c]

/-- The window its bytes name. -/
def WindowBytes.window : WindowBytes → Window
  | (b3, b2, b1, b0, c) => { base := nat4 b3 b2 b1 b0, cls := c.toNat }

theorem length_flatMap_bytes (bs : List WindowBytes) : (bs.flatMap WindowBytes.bytes).length = 5 * bs.length := by
  induction bs with
  | nil => rfl
  | cons b bs ih =>
    have hb : b.bytes.length = 5 := rfl
    rw [List.flatMap_cons, List.length_append, ih, hb, List.length_cons]
    omega

theorem readWindows_flatMap (bs : List WindowBytes) :
    readWindows (bs.flatMap WindowBytes.bytes) = some (bs.map WindowBytes.window) := by
  induction bs with
  | nil => rfl
  | cons b bs ih =>
    simp only [List.flatMap_cons, WindowBytes.bytes, List.cons_append, List.nil_append, readWindows, ih,
      Option.map_some, List.map_cons, WindowBytes.window]

theorem readRestore_append {n1 n0 o3 o2 o1 o0 z3 z2 z1 z0 h3 h2 h1 h0 : Byte} {bs : List WindowBytes}
    (h : label.length + 5 * bs.length ≤ 64) :
    readRestore ([n1, n0, o3, o2, o1, o0, z3, z2, z1, z0, h3, h2, h1, h0, BitVec.ofNat 8 label.length] ++ label ++
        [BitVec.ofNat 8 bs.length] ++ bs.flatMap WindowBytes.bytes) =
      some (nat2 n1 n0, nat4 o3 o2 o1 o0, nat4 z3 z2 z1 z0, nat4 h3 h2 h1 h0, label, bs.map WindowBytes.window) := by
  have hl : (BitVec.ofNat 8 label.length).toNat = label.length := toNat_ofNat_length (l := label) (by omega)
  have hb : (BitVec.ofNat 8 bs.length).toNat = bs.length := toNat_ofNat_length (l := bs) (by omega)
  simp only [List.cons_append, List.nil_append, List.append_assoc, readRestore, hl, List.drop_left, hb,
    length_flatMap_bytes, if_true, readWindows_flatMap, Option.map_some, List.take_left]

/-! ## The checks in their order -/

theorem serveRestore_of_refusal {o z h : Nat} {a : Answer} (hp : readRestore p = some (n, o, z, h, label, ws))
    (hr : s.restoreRefusal n label ws = some a) : serveRestore p s = (s, a) := by
  simp [serveRestore, hp, hr, State.unchanged]

theorem serveRestore_of_accepted {o z h : Nat} {i : Fin 64} (hp : readRestore p = some (n, o, z, h, label, ws))
    (hr : s.restoreRefusal n label ws = none) (hi : s.lowestFree = some i) :
    serveRestore p s =
      (s.setEntry i (Entry.restoredAs n o z (restoredHold s.clock.runSeconds h) label ws), okAnswer (be1 i ++
        be1 (s.setEntry i (Entry.restoredAs n o z (restoredHold s.clock.runSeconds h) label ws)).freePool)) := by
  simp [serveRestore, hp, hr, hi]

theorem State.restoreRefusal_badArg (h : ¬ RestoreSound n label ws) :
    s.restoreRefusal n label ws = some (refusal .badArg) := by
  rw [restoreSound_iff, not_not] at h
  exact if_pos h

section
variable (hs : RestoreSound n label ws)
include hs

theorem State.restoreRefusal_exists (h : ¬ s.unheld n) : s.restoreRefusal n label ws = some (refusal .exists) := by
  rw [State.restoreRefusal, if_neg (restoreSound_iff.mp hs), if_pos (State.findSurvey_isSome_of_held h)]

variable (hu : s.unheld n)
include hu

/-- The check of one window fails first for the window of this index. -/
def FirstAt (bad : Nat → Window → Prop) (ws : List Window) (k : Nat) : Prop :=
  (∃ w, ws[k]? = some w ∧ bad k w) ∧ ∀ j v, j < k → ws[j]? = some v → ¬ bad j v

omit hs hu in
theorem firstFailing_of_firstAt {bad : Nat → Window → Prop} {fails : Nat → Window → Bool} {k : Nat}
    (hb : ∀ k w, fails k w = true ↔ bad k w) (h : FirstAt bad ws k) : firstFailing fails ws = some k := by
  obtain ⟨⟨w, hw, hk⟩, hlt⟩ := h
  refine firstFailing_eq_some hw ((hb k w).mpr hk) fun j v hj hv => ?_
  rw [← Bool.not_eq_true, hb]
  exact hlt j v hj hv

/-- The window overlaps a window of a live entry or an earlier window of the list (R72). -/
def State.Clashes (s : State) (ws : List Window) (k : Nat) (w : Window) : Prop :=
  s.shares w ∨ ∃ j v, j < k ∧ ws[j]? = some v ∧ w.share v

omit hs hu in
theorem State.restoreOverlaps_iff {k : Nat} {w : Window} : s.restoreOverlaps ws k w = true ↔ s.Clashes ws k w := by
  simp only [State.restoreOverlaps, Bool.or_eq_true, State.overlapsLive_iff, List.any_eq_true, Window.overlaps_iff,
    State.Clashes, List.mem_iff_getElem?, List.getElem?_take]
  refine or_congr_right ⟨?_, ?_⟩
  · rintro ⟨v, ⟨j, hj⟩, hv⟩
    split at hj
    · exact ⟨j, v, by assumption, hj, hv⟩
    · cases hj
  · rintro ⟨j, v, hjk, hj, hv⟩
    exact ⟨v, ⟨j, by rw [if_pos hjk, hj]⟩, hv⟩

theorem State.restoreRefusal_misaligned {k : Nat} (h : FirstAt (fun _ w => ¬ w.fits) ws k) :
    s.restoreRefusal n label ws = some (refusalAt .misaligned k) := by
  have hk : firstFailing (fun _ w => !w.aligned) ws = some k :=
    firstFailing_of_firstAt (fun _ w => by rw [Bool.not_eq_true', Window.aligned_eq_false_iff]) h
  rw [State.restoreRefusal, if_neg (restoreSound_iff.mp hs), if_neg (by simp [State.findSurvey_of_unheld hu]), hk]

variable (hf : ∀ w ∈ ws, w.fits)
include hf

omit hs hu in
theorem firstFailing_aligned : firstFailing (fun _ w => !w.aligned) ws = none := by
  rw [firstFailing_eq_none_iff]
  intro k w hw
  rw [Bool.not_eq_false', Window.aligned_iff]
  exact hf w (List.mem_of_getElem? hw)

theorem State.restoreRefusal_outOfRange {k : Nat} (h : FirstAt (fun _ w => ¬ w.within s.table.mediaLimit) ws k) :
    s.restoreRefusal n label ws = some (refusalAt .outOfRange k) := by
  have hk : firstFailing (fun _ w => decide (s.table.mediaLimit < w.last)) ws = some k :=
    firstFailing_of_firstAt (fun _ w => by rw [decide_eq_true_eq, Window.limit_lt_last_iff]) h
  rw [State.restoreRefusal, if_neg (restoreSound_iff.mp hs), if_neg (by simp [State.findSurvey_of_unheld hu]),
    firstFailing_aligned hf, hk]

variable (hr : ∀ w ∈ ws, w.within s.table.mediaLimit)
include hr

omit hs hu hf in
theorem firstFailing_limit : firstFailing (fun _ w => decide (s.table.mediaLimit < w.last)) ws = none := by
  rw [firstFailing_eq_none_iff]
  intro k w hw
  rw [decide_eq_false_iff_not]
  exact Window.limit_not_lt_last (hr w (List.mem_of_getElem? hw))

theorem State.restoreRefusal_overlap {k : Nat} (h : FirstAt (s.Clashes ws) ws k) :
    s.restoreRefusal n label ws = some (refusalAt .overlap k) := by
  have hk : firstFailing (s.restoreOverlaps ws) ws = some k :=
    firstFailing_of_firstAt (fun _ _ => State.restoreOverlaps_iff) h
  rw [State.restoreRefusal, if_neg (restoreSound_iff.mp hs), if_neg (by simp [State.findSurvey_of_unheld hu]),
    firstFailing_aligned hf, firstFailing_limit hr, hk]

theorem State.restoreRefusal_of_clear (h : ∀ k w, ws[k]? = some w → ¬ s.Clashes ws k w) :
    s.restoreRefusal n label ws =
      if s.lowestFree.isNone ∨ s.freePool < ws.length then some (refusal .full) else none := by
  have hk : firstFailing (s.restoreOverlaps ws) ws = none := by
    rw [firstFailing_eq_none_iff]
    intro k w hw
    rw [← Bool.not_eq_true, State.restoreOverlaps_iff]
    exact h k w hw
  rw [State.restoreRefusal, if_neg (restoreSound_iff.mp hs), if_neg (by simp [State.findSurvey_of_unheld hu]),
    firstFailing_aligned hf, firstFailing_limit hr, hk]

end

/-- Settles O31: the checks of R72 by the row of `State.restoreRefusal` that fails first, and the SEALED entry in the
lowest FREE slot. -/
theorem restoreRebuildsOrRefuses : Obligations.RestoreRebuildsOrRefuses := by
  intro s n1 n0 o3 o2 o1 o0 z3 z2 z1 z0 h3 h2 h1 h0 label bytes hs hlen ws payload number sound inside clashes firstAt
    refuses
  have hws : ws = bytes.map WindowBytes.window := rfl
  have hpay : payload.length ≤ 80 := by
    change (_ ++ bytes.flatMap WindowBytes.bytes).length ≤ 80
    rw [List.length_append, length_flatMap_bytes]
    simp
    omega
  have hread : readRestore payload =
      some (number, nat4 o3 o2 o1 o0, nat4 z3 z2 z1 z0, nat4 h3 h2 h1 h0, label, ws) := readRestore_append hlen
  have hsound : sound ↔ RestoreSound number label ws := by
    rw [RestoreSound, ← List.length_pos_iff]
    exact Iff.rfl
  have refuse {a : Answer} (h : s.restoreRefusal number label ws = some a) : Refuses (.restore payload) s a :=
    restore_serves hs hpay (serveRestore_of_refusal hread h)
  refine ⟨?_, ?_, fun hsd hu => ⟨?_, fun hf => ⟨?_, fun hr => ⟨?_, fun hc => ⟨?_, ?_⟩⟩⟩⟩⟩
  · exact fun h => refuse (State.restoreRefusal_badArg (mt hsound.mpr h))
  · exact fun hsd h => refuse (State.restoreRefusal_exists (hsound.mp hsd) h)
  · exact fun k h => refuse (State.restoreRefusal_misaligned (hsound.mp hsd) hu h)
  · exact fun k h => refuse (State.restoreRefusal_outOfRange (hsound.mp hsd) hu hf h)
  · exact fun k h => refuse (State.restoreRefusal_overlap (hsound.mp hsd) hu hf hr h)
  · intro h
    refine refuse ?_
    rw [State.restoreRefusal_of_clear (hsound.mp hsd) hu hf hr hc]
    refine if_pos ?_
    rcases h with h | h
    · exact .inl (by rw [State.lowestFree_of_full h]; rfl)
    · exact .inr (by rw [State.freePool_eq]; omega)
  · intro i hi hw hp
    have hlow := State.lowestFree_of_isLowestFree hi
    have hnone : s.restoreRefusal number label ws = none := by
      rw [State.restoreRefusal_of_clear (hsound.mp hsd) hu hf hr hc, if_neg]
      rw [hlow, State.freePool_eq]
      simp
      omega
    refine restore_serves hs hpay ?_
    rw [serveRestore_of_accepted hread hnone hlow, State.freePool_setEntry hw]
    rfl

end Sys2Proof.Machine

/-! SET-PARAM: the parameters by number, the value taken, the effects, the refusals, and the cycle delay in
CYCLE_WAIT. -/

namespace Sys2Proof.Machine

variable {s : State} {q : Param} {n : Byte} {v : Nat}

/-! ## Parameters by number (R206) -/

/-- The number of each parameter. -/
def Param.number : Param → Nat
  | .mediaLimit => 0x01
  | .unmappedPolicy => 0x02
  | .grantTimeout => 0x08
  | .samplePeriod => 0x10
  | .ff => 0x11
  | .fi => 0x12
  | .nf => 0x13
  | .settleTime => 0x14
  | .blindPolicy => 0x15
  | .supplySettle => 0x18
  | .spinTimeout => 0x19
  | .unloadTime => 0x1A
  | .spinDown => 0x1B
  | .cycleDelay => 0x1C
  | .gaugePeriod => 0x20
  | .currentScale => 0x21
  | .capacity => 0x22
  | .vEmpty => 0x23
  | .vFull => 0x24
  | .taper => 0x25
  | .slewStep => 0x26
  | .rPark => 0x28
  | .rEntry => 0x29
  | .hyst => 0x2A
  | .dozeDelay => 0x2B
  | .mask => 0x30

theorem paramOf_number (q : Param) : paramOf q.number = some q := by
  cases q <;> rfl

theorem number_of_paramOf {k : Nat} (h : paramOf k = some q) : k = q.number := by
  unfold paramOf at h
  split at h <;> cases h <;> rfl

/-- The sequencer timing parameters are those numbered 0x18 to 0x1C. -/
theorem Param.isTiming_iff : q.isTiming = true ↔ 0x18 ≤ q.number ∧ q.number ≤ 0x1C := by
  cases q <;> simp [Param.isTiming, Param.number]

theorem exists_param_of_timing (h1 : 0x18 ≤ n.toNat) (h2 : n.toNat ≤ 0x1C) : ∃ q : Param, n.toNat = q.number := by
  have h : n.toNat = 0x18 ∨ n.toNat = 0x19 ∨ n.toNat = 0x1A ∨ n.toNat = 0x1B ∨ n.toNat = 0x1C := by omega
  rcases h with h | h | h | h | h
  · exact ⟨.supplySettle, h⟩
  · exact ⟨.spinTimeout, h⟩
  · exact ⟨.unloadTime, h⟩
  · exact ⟨.spinDown, h⟩
  · exact ⟨.cycleDelay, h⟩

/-! ## The value taken -/

/-- R84: Ff clamped below Fi. -/
theorem min_pred_eq_ite (c fi : Nat) : min c (fi - 1) = if c < fi then c else fi - 1 := by split <;> omega

/-- R84: Fi clamped above Ff. -/
theorem max_succ_eq_ite (c ff : Nat) : max c (ff + 1) = if ff < c then c else ff + 1 := by split <;> omega

/-- R126: T taken down to a whole multiple of 50. -/
theorem sub_mod_eq_div_mul (c : Nat) : c - c % 50 = c / 50 * 50 := by omega

theorem State.taken_of_number (h : n.toNat = q.number) (v : Nat) : s.taken n v = some (s.valueTaken q v) := by
  cases q
  case ff =>
    simp only [State.taken, h, Param.number]
    exact congrArg some (min_pred_eq_ite _ _)
  case fi =>
    simp only [State.taken, h, Param.number]
    exact congrArg some (max_succ_eq_ite _ _)
  case gaugePeriod =>
    simp only [State.taken, h, Param.number]
    exact congrArg some (sub_mod_eq_div_mul _)
  all_goals
    simp only [State.taken, h, Param.number]
    rfl

theorem State.taken_of_no_number (h : paramOf n.toNat = none) (v : Nat) : s.taken n v = none := by
  unfold paramOf at h
  split at h
  case h_27 => simp only [State.taken]
  all_goals cases h

/-- The parameter of a number for which SET-PARAM takes a value. -/
theorem State.param_of_taken {x : Nat} (h : s.taken n x = some v) :
    ∃ q : Param, n.toNat = q.number ∧ s.valueTaken q x = v := by
  cases hq : paramOf n.toNat with
  | none => rw [State.taken_of_no_number hq] at h; cases h
  | some q =>
    have hn := number_of_paramOf hq
    rw [State.taken_of_number hn] at h
    exact ⟨q, hn, Option.some.inj h⟩

/-! ## The effects -/

theorem Guard.setNf_eq (g : Guard) (v : Nat) : g.setNf v = { g with nf := v, run := min g.run (v - 1) } := by
  have h : (if v ≤ g.run then v - 1 else g.run) = min g.run (v - 1) := by split <;> omega
  rw [Guard.setNf, h]

theorem Gauge.setCapacity_eq (g : Gauge) (v : Nat) :
    g.setCapacity v = { g with
      capacity := v, q := min g.q (v * 1000), residue := if v * 1000 < g.q then 0 else g.residue,
      s := min g.q (v * 1000) * 1000 / (v * 1000), p := min g.q (v * 1000) * 1000 / (v * 1000), slewCount := 0 } := by
  simp only [Gauge.setCapacity, Gauge.cf]
  split
  next h => simp [Gauge.computeS, Gauge.snap, stateOfCharge, Gauge.cf, h, Nat.le_of_lt h]
  next h => simp [Gauge.computeS, Gauge.snap, stateOfCharge, Gauge.cf, h, Nat.not_lt.mp h]

theorem State.setCycleDelay_of_ne (h : s.seq.state ≠ .cycleWait) (v : Nat) :
    s.setCycleDelay v = s.onSeq fun q => { q with cycleDelay := v } :=
  if_neg h

/-- The state of R206, step 4, is the one the owning rules give, but for the cycle delay in CYCLE_WAIT. -/
theorem State.withParam_of_number (h : n.toNat = q.number) (hc : q = .cycleDelay → s.seq.state ≠ .cycleWait) (v : Nat) :
    s.withParam n v = s.setParam q v := by
  cases q
  case nf =>
    simp only [State.withParam, h, Param.number, State.setParam, State.onGuard, Guard.setNf_eq]
  case cycleDelay =>
    simp only [State.withParam, h, Param.number, State.setParam, State.setCycleDelay_of_ne (hc rfl)]
    rfl
  case capacity =>
    simp only [State.withParam, h, Param.number, State.setParam, State.onGauge, Gauge.setCapacity_eq]
  all_goals
    simp only [State.withParam, h, Param.number]
    rfl

/-! ## Served and refused -/

theorem serveSetParam_of_taken {v3 v2 v1 v0 : Byte} (hn : n.toNat = q.number)
    (h : s.paramRefusal q (nat4 v3 v2 v1 v0) = none) :
    serveSetParam [n, v3, v2, v1, v0] s =
      (s.setParam q (s.valueTaken q (nat4 v3 v2 v1 v0)), okAnswer (n :: be4 (s.valueTaken q (nat4 v3 v2 v1 v0)))) := by
  have hbyte : be1 q.number = [n] := by rw [be1, ← hn, BitVec.ofNat_toNat, BitVec.setWidth_eq]
  simp only [serveSetParam, readParamValue, hn, paramOf_number, h, paramBytes, hbyte, List.cons_append, List.nil_append]

theorem serveSetParam_of_refusal {v3 v2 v1 v0 : Byte} {c : Code} (hn : n.toNat = q.number)
    (h : s.paramRefusal q (nat4 v3 v2 v1 v0) = some c) :
    serveSetParam [n, v3, v2, v1, v0] s = (s, refusal c) := by
  simp [serveSetParam, readParamValue, hn, paramOf_number, h, State.unchanged]

theorem serveSetParam_of_no_number {v3 v2 v1 v0 : Byte} (h : paramOf n.toNat = none) :
    serveSetParam [n, v3, v2, v1, v0] s = (s, refusal .badArg) := by
  simp [serveSetParam, readParamValue, h, State.unchanged]

/-- R119: what is locked. -/
theorem State.locked_eq_true_iff :
    s.locked q = true ↔ (0x18 ≤ q.number ∧ q.number ≤ 0x1C) ∧ s.seq.state ≠ .off ∧ s.seq.state ≠ .cycleWait := by
  simp [State.locked, Param.isTiming_iff, and_assoc]

/-- R7, R119: where nothing refuses. -/
theorem State.paramRefusal_eq_none {x : Nat} (hlock : s.locked q = false)
    (hlimit : q = .mediaLimit → s.limitRefused (s.valueTaken q x) = false) : s.paramRefusal q x = none := by
  rw [State.paramRefusal, if_neg (by simp [hlock]), if_neg]
  rintro ⟨hq, hr⟩
  simp [hlimit hq] at hr

/-- Settles O18: the value taken (`State.taken_of_number`) and its effects (`State.withParam_of_number`). -/
theorem setParamSetsItsParameter : Obligations.SetParamSetsItsParameter := by
  intro s n v3 v2 v1 v0 v hs ht hlock hdelay hlimit
  obtain ⟨q, hn, rfl⟩ := State.param_of_taken ht
  have hlocked : s.locked q = false := by
    rw [← Bool.not_eq_true, State.locked_eq_true_iff]
    rintro ⟨⟨h1, h2⟩, h3, h4⟩
    rcases hlock (by omega) (by omega) with h | h
    · exact h3 h
    · exact h4 h
  have hmedia : q = .mediaLimit → s.limitRefused (s.valueTaken q (nat4 v3 v2 v1 v0)) = false := by
    intro hq
    rw [← Bool.not_eq_true, State.limitRefused_eq_true_iff]
    rintro ⟨i, w, hlive, hw, hlt⟩
    exact hlt (hlimit (BitVec.eq_of_toNat_eq (by rw [hn, hq]; rfl)) i w hlive hw)
  have hwait : q = .cycleDelay → s.seq.state ≠ .cycleWait := by
    intro hq
    have := hdelay (BitVec.eq_of_toNat_eq (by rw [hn, hq]; rfl))
    simp [this]
  rw [State.withParam_of_number hn hwait]
  exact setParam_serves hs (by simp) (serveSetParam_of_taken hn (State.paramRefusal_eq_none hlocked hmedia))

/-! ## The cycle delay in CYCLE_WAIT (R120) -/

theorem State.valueTaken_cycleDelay (s : State) (x : Nat) : s.valueTaken .cycleDelay x = min 10000 x := by
  simp [State.valueTaken, Param.clamp, Param.range]

theorem State.setCycleDelay_of_waited {d : Nat} (h : s.seq.state = .cycleWait) (hd : d ≤ s.seq.waited) :
    s.setCycleDelay d =
      (({ s with seq := { s.seq with cycleDelay := d, state := .off, phase := none, waited := 0 } }.raise
        .mechanism).powerUpCheck) := by
  exact (if_pos h).trans (if_pos hd)

theorem State.setCycleDelay_of_waiting {d : Nat} (h : s.seq.state = .cycleWait) (hd : s.seq.waited < d) :
    s.setCycleDelay d = { s with seq := { s.seq with cycleDelay := d, phase := some (d - s.seq.waited) } } := by
  exact (if_pos h).trans (if_neg (Nat.not_le.mpr hd))

/-- R177: the expiry of the phase timer does not happen while the timer has time left. -/
theorem exec_cycleDelayExpiry_of_not_ended (h : timerEnded s.seq.phase = false) :
    exec .cycleDelayExpiry s = .next s := by
  have hnone : s.phaseExpiry .cycleWait State.offReached = s := if_neg (by simp [h])
  have hdoze : s.dozeFollows s.dozeCondition = s := by
    unfold State.dozeFollows
    cases s.dozeCondition <;> simp
  change Host.Outcome.next (s.event (State.phaseExpiry .cycleWait State.offReached)) = _
  unfold State.event
  rw [hnone, hdoze, ite_self]

/-- Settles O19: the refusals in the order of `State.paramRefusal`, and the wait measured by the new cycle delay. -/
theorem setParamRefusalsAndTheCycleDelay : Obligations.SetParamRefusalsAndTheCycleDelay := by
  refine ⟨fun s n v3 v2 v1 v0 hs => ⟨fun h => ?_, fun h1 h2 h3 h4 => ?_, fun i w hlive hw hlt => ?_⟩,
    fun s v3 v2 v1 v0 hs hw => ?_⟩
  · cases hq : paramOf n.toNat with
    | none => exact setParam_serves hs (by simp) (serveSetParam_of_no_number hq)
    | some q => rw [State.taken_of_number (number_of_paramOf hq)] at h; cases h
  · obtain ⟨q, hq⟩ := exists_param_of_timing h1 h2
    refine setParam_serves hs (by simp) (serveSetParam_of_refusal hq (if_pos ?_))
    exact State.locked_eq_true_iff.mpr ⟨by omega, h3, h4⟩
  · refine setParam_serves hs (by simp) (serveSetParam_of_refusal (q := .mediaLimit) rfl ?_)
    have htaken : s.valueTaken .mediaLimit (nat4 v3 v2 v1 v0) = max 15 (nat4 v3 v2 v1 v0) := by
      have := nat4_le v3 v2 v1 v0
      simp only [State.valueTaken, Param.clamp, Param.range]
      omega
    refine (if_neg (by simp [State.locked, Param.isTiming])).trans (if_pos ⟨rfl, ?_⟩)
    rw [htaken, State.limitRefused_eq_true_iff]
    exact ⟨i, w, hlive, hw, Nat.not_le.mpr hlt⟩
  · have hserve : serveSetParam [0x1C, v3, v2, v1, v0] s =
        (s.setCycleDelay (min 10000 (nat4 v3 v2 v1 v0)), okAnswer (0x1C :: be4 (min 10000 (nat4 v3 v2 v1 v0)))) := by
      rw [serveSetParam_of_taken (q := .cycleDelay) rfl, State.valueTaken_cycleDelay]
      · rfl
      · exact State.paramRefusal_eq_none (by simp [State.locked, hw]) (by simp)
    refine ⟨fun hd => ?_, fun hd => ?_⟩
    · rw [State.setCycleDelay_of_waited hw hd] at hserve
      exact setParam_serves hs (by simp) hserve
    · rw [State.setCycleDelay_of_waiting hw hd] at hserve
      have hserves := setParam_serves hs (by simp) hserve
      refine ⟨hserves, fun t ht => exec_cycleDelayExpiry_of_not_ended ?_⟩
      obtain ⟨t', ht', hblocks, -, -⟩ := hserves
      cases ht.symm.trans ht'
      have hphase : t.seq.phase = some (min 10000 (nat4 v3 v2 v1 v0) - s.seq.waited) :=
        congrArg (fun u : State => u.seq.phase) hblocks
      rw [hphase]
      simp [timerEnded]
      omega

end Sys2Proof.Machine

/-! The power-up precondition and the level evaluation, said once (`State.precondition_iff`,
`State.evaluate_eq_handCritical`). -/

namespace Sys2Proof.Machine

variable {s : State} {was : Bool}

/-! ## The power-up precondition (R107) -/

theorem State.critical_iff : s.critical = true ↔ s.supply.level = .critical ∧ s.supply.present = false := by
  simp [State.critical]

theorem Guard.permits_iff (g : Guard) :
    g.permits = true ↔ g.state = .calm ∨ (g.state = .blind ∧ g.blindPolicy = .proceed) := by
  simp [Guard.permits]

theorem State.precondition_iff :
    s.precondition = true ↔ s.seq.target = .on ∧ ¬ (s.supply.level = .critical ∧ s.supply.present = false) ∧
      (s.guard.state = .calm ∨ (s.guard.state = .blind ∧ s.guard.blindPolicy = .proceed)) ∧ s.seq.fault = .clear := by
  rw [← State.critical_iff, ← Guard.permits_iff]
  cases ht : s.seq.target <;> simp [State.precondition, State.offDemand, ht, and_assoc]

theorem State.powerUpCheck_of_precondition (h : s.seq.state = .off) (hp : s.precondition = true) :
    s.powerUpCheck = s.onSeq Sequencer.toPowering :=
  if_pos ⟨h, hp⟩

theorem State.powerUpCheck_of_not (h : ¬ (s.seq.state = .off ∧ s.precondition = true)) : s.powerUpCheck = s := if_neg h

theorem State.precondition_of_target_off (h : s.seq.target = .off) : s.precondition = false := by
  simp [State.precondition, h]

/-! ## Critical-on-battery handed to the sequencer (R106) -/

theorem State.handCritical_of_eq (h : s.critical = was) : s.handCritical was = s := by
  subst h
  unfold State.handCritical
  cases s.critical <;> simp

section
variable (h : s.critical = true)
include h

theorem State.handCritical_arising_ready (hs : s.seq.state = .ready) : s.handCritical false = s.wayDown := by
  simp [State.handCritical, h, hs]

theorem State.handCritical_arising_powering (hs : s.seq.state = .powering ∨ s.seq.state = .spinning) :
    s.handCritical false = s.onSeq (Sequencer.toStopping .battery) := by
  rcases hs with hs | hs <;> simp [State.handCritical, h, hs]

theorem State.handCritical_arising_other (h1 : s.seq.state ≠ .ready) (h2 : s.seq.state ≠ .powering)
    (h3 : s.seq.state ≠ .spinning) : s.handCritical false = s := by
  unfold State.handCritical
  rw [if_pos ⟨rfl, h⟩]
  split <;> simp_all

end

section
variable (h : s.critical = false)
include h

theorem State.handCritical_ceasing_draining (hs : s.seq.state = .draining) :
    s.handCritical true = if s.offDemand then s else s.onSeq Sequencer.toReady := by
  simp [State.handCritical, h, hs]

theorem State.handCritical_ceasing_off (hs : s.seq.state = .off) :
    s.handCritical true = s.wakeForPowerUp.powerUpCheck := by
  simp [State.handCritical, h, hs]

theorem State.handCritical_ceasing_other (h1 : s.seq.state ≠ .draining) (h2 : s.seq.state ≠ .off) :
    s.handCritical true = s := by
  unfold State.handCritical
  rw [if_neg (by simp), if_pos ⟨rfl, h⟩]
  split <;> simp_all

end

/-- With the target OFF and the disk neither up nor on its way up, critical-on-battery moves nothing. -/
theorem State.handCritical_of_down (ht : s.seq.target = .off) (h1 : s.seq.state ≠ .ready) (h2 : s.seq.state ≠ .powering)
    (h3 : s.seq.state ≠ .spinning) : s.handCritical was = s := by
  have hoff : s.offDemand = true := by simp [State.offDemand, ht]
  have hwake : s.wakeForPowerUp = s := if_neg (by simp [ht])
  have hstay : s.powerUpCheck = s := State.powerUpCheck_of_not (by simp [State.precondition_of_target_off ht])
  cases was <;> cases hc : s.critical
  · exact State.handCritical_of_eq hc
  · exact State.handCritical_arising_other hc h1 h2 h3
  · by_cases hd : s.seq.state = .draining
    · rw [State.handCritical_ceasing_draining hc hd, if_pos hoff]
    · by_cases ho : s.seq.state = .off
      · rw [State.handCritical_ceasing_off hc ho, hwake, hstay]
      · exact State.handCritical_ceasing_other hc hd ho
  · exact State.handCritical_of_eq hc

/-! ## The evaluation (R165, R166) -/

/-- The level as judged, with BATTERY raised on a change of it: an evaluation but for its hand-off to the sequencer. -/
def State.judged (empty : Bool) (s : State) : State :=
  { s with
    supply := { s.supply with level := s.judgedLevel empty },
    attention := { s.attention with
      pending := if s.judgedLevel empty = s.supply.level then s.attention.pending
        else s.attention.pending ||| 0x002#11 } }

theorem State.evaluate_eq_handCritical (s : State) (was empty : Bool) :
    s.evaluate was empty = (s.judged empty).handCritical was := by
  have hjudged : s.judged empty = if s.judgedLevel empty = s.supply.level then s
      else (s.onSupply fun p => { p with level := s.judgedLevel empty }).raise .battery := by
    unfold State.judged
    split
    next h => rw [h]
    next => rfl
  rw [hjudged]
  unfold State.evaluate
  exact (apply_ite _ _ _ _).symm

theorem State.critical_judged (s : State) (empty : Bool) :
    (s.judged empty).critical = (decide (s.judgedLevel empty = .critical) && !s.supply.present) := by
  simp [State.critical, State.judged, beq_eq_decide]

theorem State.judgedLevel_eq (s : State) (empty : Bool) :
    s.judgedLevel empty = match s.supply.level with
      | .ample => if empty = true ∨ s.gauge.q < s.supply.rPark then .critical
        else if s.gauge.q < s.supply.rPark + (s.nOpen + 1) * s.supply.rEntry then .low else .ample
      | .low => if empty = true ∨ s.gauge.q < s.supply.rPark then .critical
        else if s.supply.rPark + (s.nOpen + 1) * s.supply.rEntry + s.supply.hyst ≤ s.gauge.q then .ample else .low
      | .critical =>
        if empty = true then .critical
        else if s.supply.rPark + (s.nOpen + 1) * s.supply.rEntry + s.supply.hyst ≤ s.gauge.q then .ample
        else if s.supply.rPark + s.supply.hyst ≤ s.gauge.q then .low
        else .critical := by
  unfold State.judgedLevel nextLevel State.threshold
  cases s.supply.level <;> simp only [Bool.or_eq_true, decide_eq_true_eq]

/-- Settles O42: the precondition by its terms, and an evaluation as the judged level (`State.judged`) handed on by
critical-on-battery's arising and ceasing. -/
theorem preconditionAndLevelAreJudged : Obligations.PreconditionAndLevelAreJudged := by
  refine ⟨fun s => ⟨fun h1 h2 h3 h4 h5 => ?_, fun h => ?_⟩, fun s => rfl, ?_⟩
  · exact State.powerUpCheck_of_precondition h1 (State.precondition_iff.mpr ⟨h2, h3, h4, h5⟩)
  · refine State.powerUpCheck_of_not ?_
    rw [State.precondition_iff]
    rintro ⟨ho, ht, hc, hg, hf⟩
    rcases hg with hg | ⟨hg, hb⟩ <;> simp_all
  · intro s was empty u q thr level judged now
    have hlevel : s.judgedLevel empty = level := State.judgedLevel_eq s empty
    have hjudged : s.judged empty = judged := by
      unfold State.judged
      rw [hlevel]
    have hnow : judged.critical = now := by
      rw [← hjudged, State.critical_judged, hlevel]
    rw [State.evaluate_eq_handCritical, hjudged]
    have hoff (ht : s.seq.target = .on) (hc : now = false) : judged.offDemand = false := by
      rw [State.offDemand, hnow, hc]
      simp [judged, ht]
    refine ⟨fun h => ?_, fun h hc => ?_, fun h hc => ?_⟩
    · exact State.handCritical_of_eq (hnow.trans h.symm)
    · subst h
      refine ⟨fun hs => ?_, fun hs => ?_, fun h1 h2 h3 => ?_⟩
      · exact State.handCritical_arising_ready (hnow.trans hc) hs
      · exact State.handCritical_arising_powering (hnow.trans hc) hs
      · exact State.handCritical_arising_other (hnow.trans hc) h1 h2 h3
    · subst h
      refine ⟨fun hs ht => ?_, fun hs ht => ?_, fun hs hm => ?_, fun hs hm ht => ?_, fun hs hm ht => ?_,
        fun h1 h2 => ?_⟩
      · rw [State.handCritical_ceasing_draining (hnow.trans hc) hs, hoff ht hc]
        rfl
      · exact State.handCritical_of_down ht (by simp [judged, hs]) (by simp [judged, hs]) (by simp [judged, hs])
      · rw [State.handCritical_ceasing_off (hnow.trans hc) hs, State.wakeForPowerUp, if_neg]
        simp [judged, u, hm]
      · rw [State.handCritical_ceasing_off (hnow.trans hc) hs, State.wakeForPowerUp, if_pos ⟨hm, ht⟩]
        rfl
      · exact State.handCritical_of_down ht (by simp [judged, hs]) (by simp [judged, hs]) (by simp [judged, hs])
      · exact State.handCritical_ceasing_other (hnow.trans hc) h1 h2

end Sys2Proof.Machine

/-! The three starts, and the state right after reset. -/

namespace Sys2Proof.Machine

variable {s t : State}

/-! ## What is pending -/

theorem Cause.bit_and_bit (c d : Cause) : c.bit &&& d.bit ≠ 0 ↔ d = c := by
  cases c <;> cases d <;> decide

theorem State.isPending_iff (s : State) (d : Cause) : s.isPending d = true ↔ s.attention.pending &&& d.bit ≠ 0 := by
  simp [State.isPending]

theorem pending_or_bit (p : BitVec 11) (c d : Cause) :
    (p ||| c.bit) &&& d.bit ≠ 0 ↔ d = c ∨ p &&& d.bit ≠ 0 := by
  rw [BitVec.and_or_distrib_right, ← Cause.bit_and_bit, ne_eq, BitVec.ofNat_eq_ofNat, BitVec.or_eq_zero_iff]
  tauto

theorem State.isPending_raise (s : State) (c d : Cause) :
    (s.raise c).isPending d = true ↔ d = c ∨ s.isPending d = true := by
  rw [State.isPending_iff, State.isPending_iff]
  exact pending_or_bit _ c d

theorem State.isPending_judged (s : State) (empty : Bool) (d : Cause) :
    (s.judged empty).isPending d = true ↔
      (d = .battery ∧ s.judgedLevel empty ≠ s.supply.level) ∨ s.isPending d = true := by
  rw [State.isPending_iff, State.isPending_iff]
  simp only [State.judged]
  split
  next h => simp [h]
  next h =>
    simp only [ne_eq, h, not_false_eq_true, and_true]
    exact pending_or_bit _ .battery d

theorem State.isPending_of_none (h : s.attention.pending = 0) (d : Cause) : s.isPending d = false := by
  simp [State.isPending, h]

@[simp] theorem State.raise_mask (s : State) (c : Cause) : (s.raise c).attention.mask = s.attention.mask := rfl
@[simp] theorem State.raise_dozeFlag (s : State) (c : Cause) :
    (s.raise c).attention.dozeFlag = s.attention.dozeFlag := rfl

/-! ## The settling of a start (R28) -/

/-- The state in which a start settles the Survey Table: the pending set emptied, the doze flag clear (R189). -/
def State.settledStart (s : State) : State := (s.onAttention Attention.start).startSettling

theorem State.anyRetiring_iff : s.anyRetiring = true ↔ ∃ i, (s.entry i).state = .retiring := by
  simp only [State.anyRetiring, List.any_eq_true, beq_iff_eq]
  constructor
  · rintro ⟨e, he, hs⟩
    obtain ⟨k, hk, rfl⟩ := List.mem_iff_getElem.mp he
    exact ⟨⟨k, by simpa using hk⟩, by simpa [State.entry] using hs⟩
  · rintro ⟨i, hi⟩
    exact ⟨s.entry i, by simp [State.entry], hi⟩

theorem State.settledStart_entry (s : State) (i : Fin 64) :
    s.settledStart.entry i = settledRecord (s.named i) (s.entry i) := by
  unfold State.settledStart State.startSettling
  split
  · exact (State.entry_congr (State.raise_table _ _) i).trans (State.entry_mapEntries _ _ i)
  · exact State.entry_mapEntries _ _ i

theorem State.settledStart_isPending (s : State) (d : Cause) :
    s.settledStart.isPending d = true ↔ d = .freed ∧ ∃ i, (s.entry i).state = .retiring := by
  have hnone : ((s.onAttention Attention.start).mapEntries fun i e =>
      settledRecord ((s.onAttention Attention.start).named i) e).isPending d = false :=
    State.isPending_of_none (by simp [Attention.start]) d
  have hany : (s.onAttention Attention.start).anyRetiring = s.anyRetiring := rfl
  unfold State.settledStart State.startSettling
  rw [hany, ← State.anyRetiring_iff]
  split
  next h => simp [State.isPending_raise, hnone, h]
  next h => simp [hnone, h]

/-! The settling moves the records and the pending set alone. -/

section
variable (s : State)

@[simp] theorem State.settledStart_grants : s.settledStart.grants = s.grants := by
  simp only [State.settledStart, State.startSettling]; split <;> simp
@[simp] theorem State.settledStart_guard : s.settledStart.guard = s.guard := by
  simp only [State.settledStart, State.startSettling]; split <;> simp
@[simp] theorem State.settledStart_seq : s.settledStart.seq = s.seq := by
  simp only [State.settledStart, State.startSettling]; split <;> simp
@[simp] theorem State.settledStart_gauge : s.settledStart.gauge = s.gauge := by
  simp only [State.settledStart, State.startSettling]; split <;> simp
@[simp] theorem State.settledStart_supply : s.settledStart.supply = s.supply := by
  simp only [State.settledStart, State.startSettling]; split <;> simp
@[simp] theorem State.settledStart_clock : s.settledStart.clock = s.clock := by
  simp only [State.settledStart, State.startSettling]; split <;> simp
@[simp] theorem State.settledStart_link : s.settledStart.link = s.link := by
  simp only [State.settledStart, State.startSettling]; split <;> simp
@[simp] theorem State.settledStart_pins : s.settledStart.pins = s.pins := by
  simp only [State.settledStart, State.startSettling]; split <;> simp
@[simp] theorem State.settledStart_mask : s.settledStart.attention.mask = s.attention.mask := by
  simp only [State.settledStart, State.startSettling]; split <;> simp [Attention.start]
@[simp] theorem State.settledStart_dozeFlag : s.settledStart.attention.dozeFlag = false := by
  simp only [State.settledStart, State.startSettling]; split <;> simp [Attention.start]
@[simp] theorem State.settledStart_mediaLimit : s.settledStart.table.mediaLimit = s.table.mediaLimit := by
  simp only [State.settledStart, State.startSettling]; split <;> simp [State.mapEntries]
@[simp] theorem State.settledStart_policy : s.settledStart.table.policy = s.table.policy := by
  simp only [State.settledStart, State.startSettling]; split <;> simp [State.mapEntries]

end

/-- The records after a start, given the records as settled. -/
theorem entries_after_start (h : t.table = s.settledStart.table) :
    (∀ i, (s.entry i).state = .retiring → t.entry i = Entry.cleared) ∧
    (∀ i, (s.entry i).state ≠ .retiring → s.hasGrant i → t.entry i = { s.entry i with verify := true }) ∧
    (∀ i, (s.entry i).state ≠ .retiring → ¬ s.hasGrant i → t.entry i = s.entry i) := by
  have he (i : Fin 64) : t.entry i = settledRecord (s.named i) (s.entry i) :=
    (State.entry_congr h i).trans (s.settledStart_entry i)
  refine ⟨fun i hi => ?_, fun i hi hg => ?_, fun i hi hg => ?_⟩
  · rw [he, settledRecord, if_pos hi]
  · rw [he, settledRecord, if_neg hi, if_pos (State.named_iff.mpr hg)]
    rfl
  · rw [he, settledRecord, if_neg hi, State.not_named hg]
    rfl

/-! ## The level a start's evaluation finds -/

theorem State.startLevel_eq (s : State) : s.startLevel s.supply.level = s.judgedLevel false := by
  rw [State.judgedLevel_eq]
  unfold State.startLevel
  cases s.supply.level <;> simp

/-- What a start's evaluation reads. -/
theorem State.startLevel_congr (before : Level) (htable : t.table = s.table) (hq : t.gauge.q = s.gauge.q)
    (hp : t.supply.rPark = s.supply.rPark) (he : t.supply.rEntry = s.supply.rEntry)
    (hh : t.supply.hyst = s.supply.hyst) :
    t.startLevel before = s.startLevel before := by
  unfold State.startLevel State.nOpen
  rw [htable, hq, hp, he, hh]

/-! ## Cold start -/

theorem State.judgedLevel_cold (sprs adsel : Bool) (pins : Pins) (n : Nat) (q : List Instr) :
    (State.cold sprs adsel pins n q).judgedLevel false = .critical := by
  have h : ∀ m, nextLevel .critical 0 (20000 + (m + 1) * 5000) 20000 10000 false = .critical := by
    intro m
    simp [nextLevel]
  exact h _

theorem State.coldStart_eq (sprs adsel : Bool) (s : State) :
    s.coldStart sprs adsel = State.cold sprs adsel s.pins s.freeCount s.pending := by
  have h : (State.cold sprs adsel s.pins s.freeCount s.pending).judged false =
      State.cold sprs adsel s.pins s.freeCount s.pending := by
    unfold State.judged
    rw [State.judgedLevel_cold]
    rfl
  rw [State.coldStart, State.evaluate_eq_handCritical, h]
  exact State.handCritical_of_eq rfl

theorem State.parameterTable_cold (sprs adsel : Bool) (pins : Pins) (n : Nat) (q : List Instr) :
    (State.cold sprs adsel pins n q).parameterTable =
      [(0x01, 4294967295), (0x02, 0), (0x08, 2000), (0x10, 2), (0x11, 77), (0x12, 1536), (0x13, 12), (0x14, 500),
       (0x15, 0), (0x18, 50), (0x19, 4000), (0x1A, 300), (0x1B, 1200), (0x1C, 1000), (0x20, 250), (0x21, 100),
       (0x22, 3400), (0x23, 3300), (0x24, 4150), (0x25, 100), (0x26, 5), (0x28, 20), (0x29, 5), (0x2A, 10),
       (0x2B, 5), (0x30, 0)] := by
  simp [State.parameterTable, State.cold, UnmappedPolicy.code, BlindPolicy.code]

theorem State.isPending_cold (sprs adsel : Bool) (pins : Pins) (n : Nat) (q : List Instr) (c : Cause) :
    (State.cold sprs adsel pins n q).isPending c = true ↔ c = .restarted := by
  rw [State.isPending_iff]
  exact Cause.bit_and_bit .restarted c

theorem State.attnAsserted_cold (sprs adsel : Bool) (pins : Pins) (n : Nat) (q : List Instr) :
    (State.cold sprs adsel pins n q).attnAsserted = true := by
  have h : (State.cold sprs adsel pins n q).isPending .restarted = true := (State.isPending_cold ..).mpr rfl
  have habove : (Cause.all.any fun c => (State.cold sprs adsel pins n q).isPending c &&
      decide ((State.cold sprs adsel pins n q).attention.mask < c.level)) = true :=
    List.any_eq_true.mpr ⟨.restarted, by simp [Cause.all], by rw [h]; rfl⟩
  rw [State.attnAsserted, habove, Bool.or_true, Bool.and_true]
  rfl

/-- Settles O49: the evaluation of the start finds CRITICAL as it stands, so what is left is `State.cold`. -/
theorem coldStartValues : Obligations.ColdStartValues := by
  intro s sprs adsel hm hv
  refine ⟨State.cold sprs adsel s.pins s.freeCount s.pending,
    congrArg Host.Outcome.next ((if_pos ⟨hm, hv⟩).trans (State.coldStart_eq sprs adsel s)), fun i => ?_, fun k => ?_,
    State.parameterTable_cold .., ?_⟩
  · simp [State.entry, State.cold, Entry.cleared]
  · simp [State.cold]
  · -- the guard, the sequencer, the gauge, the supply and the clock; then the causes and the link
    exact ⟨rfl, rfl, rfl, rfl, rfl, rfl, rfl, rfl, rfl, rfl, rfl,
      rfl, rfl, rfl, rfl, rfl, rfl, rfl,
      rfl, rfl, rfl, rfl, rfl, rfl, rfl, rfl, rfl, rfl, rfl, rfl, rfl, rfl, rfl,
      rfl, rfl, rfl, rfl, rfl, rfl, rfl, rfl,
      fun c => State.isPending_cold .., rfl, State.attnAsserted_cold .., rfl, rfl, rfl, rfl, rfl, rfl⟩

/-! ## What a start's steps leave -/

theorem State.isPending_congr (h : t.attention = s.attention) (d : Cause) : t.isPending d = s.isPending d := by
  rw [State.isPending, h, State.isPending]

section
variable (s : State)

@[simp] theorem State.judged_table (e : Bool) : (s.judged e).table = s.table := rfl
@[simp] theorem State.judged_grants (e : Bool) : (s.judged e).grants = s.grants := rfl
@[simp] theorem State.judged_guard (e : Bool) : (s.judged e).guard = s.guard := rfl
@[simp] theorem State.judged_seq (e : Bool) : (s.judged e).seq = s.seq := rfl
@[simp] theorem State.judged_gauge (e : Bool) : (s.judged e).gauge = s.gauge := rfl
@[simp] theorem State.judged_supply (e : Bool) : (s.judged e).supply = { s.supply with level := s.judgedLevel e } := rfl
@[simp] theorem State.judged_clock (e : Bool) : (s.judged e).clock = s.clock := rfl
@[simp] theorem State.judged_link (e : Bool) : (s.judged e).link = s.link := rfl
@[simp] theorem State.judged_pins (e : Bool) : (s.judged e).pins = s.pins := rfl
@[simp] theorem State.judged_mask (e : Bool) : (s.judged e).attention.mask = s.attention.mask := rfl
@[simp] theorem State.judged_dozeFlag (e : Bool) : (s.judged e).attention.dozeFlag = s.attention.dozeFlag := rfl

/-- An evaluation with the target OFF and the disk neither up nor on its way up judges the level alone. -/
theorem State.evaluate_of_down (was empty : Bool) (ht : s.seq.target = .off) (h1 : s.seq.state ≠ .ready)
    (h2 : s.seq.state ≠ .powering) (h3 : s.seq.state ≠ .spinning) : s.evaluate was empty = s.judged empty := by
  rw [State.evaluate_eq_handCritical]
  exact State.handCritical_of_down ht h1 h2 h3

end

/-! ## Warm start -/

/-- R123, R115: the sequencer of a warm start. -/
def Sequencer.warm (q : Sequencer) : Sequencer :=
  { q with
    state := if q.cycleDelay = 0 then .off else .cycleWait, target := .off, waited := 0,
    phase := if q.cycleDelay = 0 then none else some q.cycleDelay }

theorem State.sequencerWarm_eq (s : State) :
    s.sequencerWarm =
      if s.seq.cycleDelay = 0 then (s.onSeq Sequencer.warm).raise .mechanism else s.onSeq Sequencer.warm := by
  unfold State.sequencerWarm State.enterCycleWait
  by_cases h : s.seq.cycleDelay = 0
  · have hstay : (((s.onSeq fun q => { q with target := .off }).onSeq Sequencer.toCycleWait).offReached) =
        (s.onSeq Sequencer.warm).raise .mechanism := by
      unfold State.offReached
      rw [State.powerUpCheck_of_not]
      · simp [State.onSeq, State.raise, State.onAttention, Sequencer.toOff, Sequencer.toCycleWait, Sequencer.warm, h]
      · rw [State.precondition_of_target_off rfl]
        simp
    rw [if_pos h, ← hstay]
    exact if_pos h
  · rw [if_neg h]
    refine (if_neg h).trans ?_
    simp [State.onSeq, Sequencer.toCycleWait, Sequencer.warm, h]

/-- The warm start up to the evaluation of the level. -/
def State.warmBegun (sprs adsel : Bool) (s : State) : State :=
  ((((((s.settledStart.onGrants GrantTable.emptied).onGuard fun g => g.restart (some g.samplePeriod)).onGauge
    Gauge.warm).onLink (Link.start adsel)).supplyWarm sprs).sequencerWarm)

section
variable (s : State) (sprs adsel : Bool)

@[simp] theorem State.supplyWarm_supply : (s.supplyWarm sprs).supply = { s.supply with
    mode := .run, startKind := .warm, dozeTimer := none, present := sprs, storeValid := true } := by
  simp only [State.supplyWarm]; split <;> simp

theorem State.supplyWarm_isPending (d : Cause) :
    (s.supplyWarm sprs).isPending d = true ↔ (d = .supply ∧ sprs ≠ s.supply.present) ∨ s.isPending d = true := by
  have hcongr (u : State) (h : u.attention = s.attention) : u.isPending d = s.isPending d := State.isPending_congr h d
  simp only [State.supplyWarm]
  split
  next h => simp [h, hcongr _ (State.onSupply_attention s _)]
  next h => simp [State.isPending_raise, hcongr _ (State.onSupply_attention s _), Ne.symm h]

theorem State.sequencerWarm_isPending (d : Cause) :
    s.sequencerWarm.isPending d = true ↔ (d = .mechanism ∧ s.seq.cycleDelay = 0) ∨ s.isPending d = true := by
  have hcongr (u : State) (h : u.attention = s.attention) : u.isPending d = s.isPending d := State.isPending_congr h d
  rw [State.sequencerWarm_eq]
  split
  next h => simp [State.isPending_raise, hcongr _ (State.onSeq_attention s _), h]
  next h => simp [hcongr _ (State.onSeq_attention s _), h]

/-! The sequencer's warm start moves the sequencer and the pending set alone; the supply's moves the supply and the
pending set. -/

@[simp] theorem State.sequencerWarm_seq : s.sequencerWarm.seq = s.seq.warm := by
  rw [State.sequencerWarm_eq]; split <;> simp
@[simp] theorem State.sequencerWarm_table : s.sequencerWarm.table = s.table := by
  rw [State.sequencerWarm_eq]; split <;> simp
@[simp] theorem State.sequencerWarm_grants : s.sequencerWarm.grants = s.grants := by
  rw [State.sequencerWarm_eq]; split <;> simp
@[simp] theorem State.sequencerWarm_guard : s.sequencerWarm.guard = s.guard := by
  rw [State.sequencerWarm_eq]; split <;> simp
@[simp] theorem State.sequencerWarm_gauge : s.sequencerWarm.gauge = s.gauge := by
  rw [State.sequencerWarm_eq]; split <;> simp
@[simp] theorem State.sequencerWarm_supply : s.sequencerWarm.supply = s.supply := by
  rw [State.sequencerWarm_eq]; split <;> simp
@[simp] theorem State.sequencerWarm_clock : s.sequencerWarm.clock = s.clock := by
  rw [State.sequencerWarm_eq]; split <;> simp
@[simp] theorem State.sequencerWarm_link : s.sequencerWarm.link = s.link := by
  rw [State.sequencerWarm_eq]; split <;> simp
@[simp] theorem State.sequencerWarm_mask : s.sequencerWarm.attention.mask = s.attention.mask := by
  rw [State.sequencerWarm_eq]; split <;> simp
@[simp] theorem State.sequencerWarm_dozeFlag : s.sequencerWarm.attention.dozeFlag = s.attention.dozeFlag := by
  rw [State.sequencerWarm_eq]; split <;> simp

@[simp] theorem State.supplyWarm_seq : (s.supplyWarm sprs).seq = s.seq := by
  simp only [State.supplyWarm]; split <;> simp
@[simp] theorem State.supplyWarm_table : (s.supplyWarm sprs).table = s.table := by
  simp only [State.supplyWarm]; split <;> simp
@[simp] theorem State.supplyWarm_grants : (s.supplyWarm sprs).grants = s.grants := by
  simp only [State.supplyWarm]; split <;> simp
@[simp] theorem State.supplyWarm_guard : (s.supplyWarm sprs).guard = s.guard := by
  simp only [State.supplyWarm]; split <;> simp
@[simp] theorem State.supplyWarm_gauge : (s.supplyWarm sprs).gauge = s.gauge := by
  simp only [State.supplyWarm]; split <;> simp
@[simp] theorem State.supplyWarm_clock : (s.supplyWarm sprs).clock = s.clock := by
  simp only [State.supplyWarm]; split <;> simp
@[simp] theorem State.supplyWarm_link : (s.supplyWarm sprs).link = s.link := by
  simp only [State.supplyWarm]; split <;> simp
@[simp] theorem State.supplyWarm_mask : (s.supplyWarm sprs).attention.mask = s.attention.mask := by
  simp only [State.supplyWarm]; split <;> simp
@[simp] theorem State.supplyWarm_dozeFlag : (s.supplyWarm sprs).attention.dozeFlag = s.attention.dozeFlag := by
  simp only [State.supplyWarm]; split <;> simp

end

/-- The warm start is its settling and its blocks' starts, and the level as judged on them. -/
theorem State.warmStart_eq (s : State) (sprs adsel : Bool) :
    s.warmStart sprs adsel = ((s.warmBegun sprs adsel).judged false).raise .restarted := by
  have hseq : (s.warmBegun sprs adsel).seq = s.seq.warm := by simp [State.warmBegun]
  have hstate : s.seq.warm.state = .off ∨ s.seq.warm.state = .cycleWait := by
    simp only [Sequencer.warm]
    split <;> simp
  rw [← hseq] at hstate
  have hdown {q : SeqState} (h1 : q ≠ .off) (h2 : q ≠ .cycleWait) : (s.warmBegun sprs adsel).seq.state ≠ q := by
    rcases hstate with h | h <;> rw [h]
    · exact h1.symm
    · exact h2.symm
  rw [← (s.warmBegun sprs adsel).evaluate_of_down s.critical false (by rw [hseq]; rfl) (hdown nofun nofun)
    (hdown nofun nofun) (hdown nofun nofun)]
  rfl

/-- The level of a start, where the state the evaluation read still stands. -/
theorem State.judgedLevel_eq_startLevel {before : Level} (hb : s.supply.level = before) (htable : t.table = s.table)
    (hq : t.gauge.q = s.gauge.q) (hp : t.supply.rPark = s.supply.rPark) (he : t.supply.rEntry = s.supply.rEntry)
    (hh : t.supply.hyst = s.supply.hyst) : s.judgedLevel false = t.startLevel before := by
  rw [State.startLevel_congr before htable hq hp he hh, ← State.startLevel_eq, hb]

theorem State.warmBegun_isPending (s : State) (sprs adsel : Bool) (d : Cause) :
    (s.warmBegun sprs adsel).isPending d = true ↔
      (d = .mechanism ∧ s.seq.cycleDelay = 0) ∨ (d = .supply ∧ sprs ≠ s.supply.present) ∨
        (d = .freed ∧ ∃ i, (s.entry i).state = .retiring) := by
  rw [State.warmBegun, State.sequencerWarm_isPending, State.supplyWarm_isPending, ← State.settledStart_isPending]
  simp [State.isPending]

section
variable (s : State) (sprs adsel : Bool)

@[simp] theorem State.warmStart_table : (s.warmStart sprs adsel).table = s.settledStart.table := by
  simp [State.warmStart_eq, State.warmBegun]
@[simp] theorem State.warmStart_grants : (s.warmStart sprs adsel).grants = s.grants.emptied := by
  simp [State.warmStart_eq, State.warmBegun]
@[simp] theorem State.warmStart_guard :
    (s.warmStart sprs adsel).guard = s.guard.restart (some s.guard.samplePeriod) := by
  simp [State.warmStart_eq, State.warmBegun]
@[simp] theorem State.warmStart_seq : (s.warmStart sprs adsel).seq = s.seq.warm := by
  simp [State.warmStart_eq, State.warmBegun]
@[simp] theorem State.warmStart_gauge : (s.warmStart sprs adsel).gauge = s.gauge.warm := by
  simp [State.warmStart_eq, State.warmBegun]
@[simp] theorem State.warmStart_clock : (s.warmStart sprs adsel).clock = s.clock := by
  simp [State.warmStart_eq, State.warmBegun]
@[simp] theorem State.warmStart_mask : (s.warmStart sprs adsel).attention.mask = s.attention.mask := by
  simp [State.warmStart_eq, State.warmBegun]
@[simp] theorem State.warmStart_dozeFlag : (s.warmStart sprs adsel).attention.dozeFlag = false := by
  simp [State.warmStart_eq, State.warmBegun]
@[simp] theorem State.warmStart_link : (s.warmStart sprs adsel).link = s.link.start adsel := by
  simp [State.warmStart_eq, State.warmBegun]

@[simp] theorem State.warmBegun_supply : (s.warmBegun sprs adsel).supply = { s.supply with
    mode := .run, startKind := .warm, dozeTimer := none, present := sprs, storeValid := true } := by
  simp [State.warmBegun]

theorem State.warmStart_supply : (s.warmStart sprs adsel).supply = { s.supply with
    mode := .run, present := sprs, startKind := .warm, storeValid := true,
    level := (s.warmStart sprs adsel).startLevel s.supply.level, dozeTimer := none } := by
  have hlevel : (s.warmBegun sprs adsel).judgedLevel false = (s.warmStart sprs adsel).startLevel s.supply.level := by
    rw [State.warmStart_eq]
    exact State.judgedLevel_eq_startLevel (by simp) (by simp) (by simp) (by simp) (by simp) (by simp)
  rw [← hlevel, State.warmStart_eq]
  simp

theorem State.warmStart_isPending (c : Cause) : (s.warmStart sprs adsel).isPending c = true ↔
    c = .restarted ∨ (c = .supply ∧ sprs ≠ s.supply.present) ∨ (c = .mechanism ∧ s.seq.cycleDelay = 0) ∨
      (c = .freed ∧ ∃ i, (s.entry i).state = .retiring) ∨
      (c = .battery ∧ (s.warmStart sprs adsel).supply.level ≠ s.supply.level) := by
  have hchange : ((s.warmBegun sprs adsel).judgedLevel false ≠ (s.warmBegun sprs adsel).supply.level) =
      ((s.warmStart sprs adsel).supply.level ≠ s.supply.level) := by
    simp [State.warmStart_eq]
  have horder (r b m u f : Prop) : r ∨ b ∨ m ∨ u ∨ f ↔ r ∨ u ∨ m ∨ f ∨ b := by tauto
  rw [← hchange, State.warmStart_eq, State.isPending_raise, State.isPending_judged, State.warmBegun_isPending]
  exact horder ..

theorem State.warmStart_parameterTable : (s.warmStart sprs adsel).parameterTable = s.parameterTable := by
  have hparams : (s.warmStart sprs adsel).supply.rPark = s.supply.rPark ∧
      (s.warmStart sprs adsel).supply.rEntry = s.supply.rEntry ∧ (s.warmStart sprs adsel).supply.hyst = s.supply.hyst ∧
      (s.warmStart sprs adsel).supply.dozeDelay = s.supply.dozeDelay := by
    rw [State.warmStart_supply]
    exact ⟨rfl, rfl, rfl, rfl⟩
  simp [State.parameterTable, hparams, GrantTable.emptied, Guard.restart, Gauge.warm, Sequencer.warm]

end

/-- Settles O50: the settling of the table (`entries_after_start`), the blocks' starts (`State.warmBegun`) and the level
judged on them (`State.warmStart_eq`). -/
theorem warmStartKeepsTheStore : Obligations.WarmStartKeepsTheStore := by
  intro s sprs adsel hm hv
  obtain ⟨hfreed, hmarked, hkept⟩ := entries_after_start (s.warmStart_table sprs adsel)
  refine ⟨s.warmStart sprs adsel, congrArg Host.Outcome.next (if_pos ⟨hm, hv⟩), hfreed, hmarked, hkept, fun k => ?_,
    by rw [State.warmStart_grants]; rfl, s.warmStart_parameterTable sprs adsel, s.warmStart_clock sprs adsel, ?_⟩
  · simp [GrantTable.emptied]
  · rw [State.warmStart_guard, State.warmStart_link]
    exact ⟨rfl, rfl, rfl, rfl, rfl, rfl, rfl, rfl, rfl, rfl, rfl,
      s.warmStart_seq sprs adsel, s.warmStart_gauge sprs adsel,
      s.warmStart_supply sprs adsel, s.warmStart_mask sprs adsel, s.warmStart_dozeFlag sprs adsel,
      s.warmStart_isPending sprs adsel, rfl, rfl, rfl, rfl⟩

end Sys2Proof.Machine

/-! RESTART, and the state right after reset. -/

namespace Sys2Proof.Machine

variable (s : State)

/-! ## RESTART (R162) -/

/-- The RESTART up to the evaluation of the level. -/
def State.restartBegun (s : State) : State :=
  (((s.settledStart.onGrants GrantTable.emptied).onGuard Guard.requestRestart).onSeq Sequencer.restart).onSupply
    fun p => { p with startKind := .request, dozeTimer := none, storeValid := true }

theorem Sequencer.restart_target (q : Sequencer) : q.restart.target = .off := by
  simp only [Sequencer.restart]
  split <;> rfl

/-- R124: the disk is down or on its way down. -/
theorem Sequencer.restart_state (q : Sequencer) :
    q.restart.state ≠ .ready ∧ q.restart.state ≠ .powering ∧ q.restart.state ≠ .spinning := by
  cases h : q.state <;>
    simp [Sequencer.restart, h, Sequencer.toUnloading, Sequencer.toStopping, Sequencer.spinsDown]

theorem State.restart_eq : s.restart = (s.restartBegun.judged false).raise .restarted := by
  have hseq : s.restartBegun.seq = s.seq.restart := by simp [State.restartBegun]
  obtain ⟨h1, h2, h3⟩ := s.seq.restart_state
  rw [← hseq] at h1 h2 h3
  rw [← s.restartBegun.evaluate_of_down s.critical false (by rw [hseq, Sequencer.restart_target]) h1 h2 h3]
  rfl

@[simp] theorem State.restart_table : s.restart.table = s.settledStart.table := by
  simp [State.restart_eq, State.restartBegun]
@[simp] theorem State.restart_grants : s.restart.grants = s.grants.emptied := by
  simp [State.restart_eq, State.restartBegun]
@[simp] theorem State.restart_guard : s.restart.guard = s.guard.requestRestart := by
  simp [State.restart_eq, State.restartBegun]
@[simp] theorem State.restart_seq : s.restart.seq = s.seq.restart := by
  simp [State.restart_eq, State.restartBegun]
@[simp] theorem State.restart_gauge : s.restart.gauge = s.gauge := by
  simp [State.restart_eq, State.restartBegun]
@[simp] theorem State.restart_clock : s.restart.clock = s.clock := by
  simp [State.restart_eq, State.restartBegun]
@[simp] theorem State.restart_pins : s.restart.pins = s.pins := by
  simp [State.restart_eq, State.restartBegun]
@[simp] theorem State.restart_mask : s.restart.attention.mask = s.attention.mask := by
  simp [State.restart_eq, State.restartBegun]
@[simp] theorem State.restart_dozeFlag : s.restart.attention.dozeFlag = false := by
  simp [State.restart_eq, State.restartBegun]

@[simp] theorem State.restartBegun_supply :
    s.restartBegun.supply = { s.supply with startKind := .request, dozeTimer := none, storeValid := true } := by
  simp [State.restartBegun]

theorem State.restart_supply : s.restart.supply = { s.supply with
    startKind := .request, dozeTimer := none, storeValid := true, level := s.restart.startLevel s.supply.level } := by
  have hlevel : s.restartBegun.judgedLevel false = s.restart.startLevel s.supply.level := by
    rw [State.restart_eq]
    exact State.judgedLevel_eq_startLevel (by simp) (by simp) (by simp) (by simp) (by simp) (by simp)
  rw [← hlevel, State.restart_eq]
  simp

theorem State.restart_isPending (c : Cause) : s.restart.isPending c = true ↔
    c = .restarted ∨ (c = .freed ∧ ∃ i, (s.entry i).state = .retiring) ∨
      (c = .battery ∧ s.restart.supply.level ≠ s.supply.level) := by
  have hchange : (s.restartBegun.judgedLevel false ≠ s.restartBegun.supply.level) =
      (s.restart.supply.level ≠ s.supply.level) := by
    simp [State.restart_eq]
  have hbegun : s.restartBegun.isPending c = s.settledStart.isPending c :=
    State.isPending_congr (by simp [State.restartBegun]) c
  rw [← hchange, State.restart_eq, State.isPending_raise, State.isPending_judged, hbegun, State.settledStart_isPending]
  exact or_congr_right or_comm

theorem Sequencer.restart_params (q : Sequencer) :
    q.restart.supplySettle = q.supplySettle ∧ q.restart.spinTimeout = q.spinTimeout ∧
      q.restart.unloadTime = q.unloadTime ∧ q.restart.spinDown = q.spinDown ∧ q.restart.cycleDelay = q.cycleDelay := by
  simp only [Sequencer.restart]
  split <;> exact ⟨rfl, rfl, rfl, rfl, rfl⟩

theorem State.restart_parameterTable : s.restart.parameterTable = s.parameterTable := by
  have hsupply : s.restart.supply.rPark = s.supply.rPark ∧ s.restart.supply.rEntry = s.supply.rEntry ∧
      s.restart.supply.hyst = s.supply.hyst ∧ s.restart.supply.dozeDelay = s.supply.dozeDelay := by
    rw [State.restart_supply]
    exact ⟨rfl, rfl, rfl, rfl⟩
  simp [State.parameterTable, hsupply, s.seq.restart_params, GrantTable.emptied, Guard.requestRestart,
    Guard.closeEpisode, Guard.restart]

/-- R100: the guard of a RESTART. -/
theorem Guard.requestRestart_eq (g : Guard) : g.requestRestart = { g with
    state := .calm, run := 0, settle := none, fallMs := 0, transfer := .none, setupPending := true, misses := 0,
    lastSample := none, sampleTimer := some g.samplePeriod,
    episode := { g.episode with
      isOpen := false,
      duration := if g.state = .falling then min 65535 (g.episode.duration + g.fallMs) else g.episode.duration } } := by
  simp only [Guard.requestRestart, Guard.closeEpisode, Guard.restart, Episode.addFall]
  split <;> rfl

/-- R124: the sequencer of a RESTART. -/
theorem Sequencer.restart_eq (q : Sequencer) : q.restart = match q.state with
    | .ready | .draining =>
      { q with target := .off, state := .unloading, phase := some q.unloadTime, waited := 0, stopCause := .restart }
    | .powering | .spinning =>
      { q with target := .off, state := .stopping, phase := some q.spinDown, waited := 0, stopCause := .restart }
    | .unloading | .stopping | .cycleWait => { q with target := .off }
    | .off => { q with target := .off, phase := none } := by
  cases h : q.state <;> simp only [Sequencer.restart, h] <;> rfl

/-- Settles O52: the settling of the table (`entries_after_start`), the blocks' restarts (`State.restartBegun`) and
the level judged on them (`State.restart_eq`). -/
theorem restartBeginsAgain : Obligations.RestartBeginsAgain := by
  intro s hs
  have hexec : exec (.restart []) s = .next (s.restart.under (s.link.answering (okAnswer [])) none) :=
    congrArg Host.Outcome.next (s.restart_heard _ hs)
  obtain ⟨hfreed, hmarked, hkept⟩ := entries_after_start s.restart_table
  have hsupply : (s.restart.under (s.link.answering (okAnswer [])) none).supply = s.restart.supply := by
    rw [State.under_supply, State.restart_supply]
  refine ⟨_, hexec, hfreed, hmarked, hkept, fun k => ?_, ?_, s.restart_parameterTable, s.restart_clock, s.restart_gauge,
    s.restart_pins, s.restart_guard.trans s.guard.requestRestart_eq, s.restart_seq.trans s.seq.restart_eq,
    hsupply.trans s.restart_supply, s.restart_mask, s.restart_dozeFlag, s.restart_isPending, rfl⟩
  · simp [GrantTable.emptied]
  · simp [GrantTable.emptied]

/-! ## Reset (R160) -/

theorem State.entry_reset (i : Fin 64) : State.reset.entry i = Entry.cleared := by
  simp [State.entry, State.reset, State.cold]

theorem State.grantsInOrder_reset : State.reset.grantsInOrder := by
  refine ⟨fun k g hk => ?_, fun i hi => ?_, fun i hi => ?_, fun i hi => ?_⟩
  · simp [State.reset, State.cold] at hk
  all_goals rw [State.entry_reset] at hi; cases hi

/-- Settles O53: the table by `State.tableInOrder_cold`, the grants by the empty table, the rest by the values
themselves. -/
theorem resetIsInOrder : Obligations.ResetIsInOrder := by
  refine ⟨State.tableInOrder_cold .., State.grantsInOrder_reset, ?_, ?_, ?_, ?_, ?_⟩
  · unfold State.guardInOrder Guard.inOrder; decide
  · unfold State.sequencerInOrder; decide
  · unfold Gauge.inOrder; decide
  · unfold State.reserveInOrder; decide
  · unfold State.dozeInOrder; decide

end Sys2Proof.Machine

/-! The grants' invariant: what R29 and R56 ask of a record and of a grant (`State.grantsInOrder_iff`), which changes of the
records and the grants keep them in order, and what every command does to the grant table (`exec_grantsStep`). -/

namespace Sys2Proof.Machine

variable {s t u : State}

/-! ## A record and the grants that name it -/

/-- R29: a grant that names this record lies inside the window it names, and the record is in a state that has grants. -/
structure Entry.Bears (e : Entry) (g : Grant) : Prop where
  state : e.state = .opened ∨ e.state = .closing ∨ e.state = .retiring
  window : ∃ w, e.windows[g.window]? = some w ∧ w.base ≤ g.first ∧ g.first + g.count ≤ w.base + 2 ^ (w.cls + 4)

/-- R56: the waiting states of a record are accounted for by whether a grant names it and by its mark. -/
structure Entry.Accounted (e : Entry) (granted : Prop) : Prop where
  retiring : e.state = .retiring → granted
  sealed : e.state = .sealed → ¬ granted ∧ e.verify = false
  closing : e.state = .closing → granted ∨ e.verify = true

/-- R29, R30: the fields of the grant in slot k. -/
structure Grant.Formed (g : Grant) (k : Fin 8) (generation : Fin 32) : Prop where
  tag : g.tag = generation.val * 8 + k.val
  count_pos : 1 ≤ g.count
  count_le : g.count ≤ 65535
  unmapped : g.entry = none → g.window = 0

theorem State.grantsInOrder_iff : s.grantsInOrder ↔
    (∀ (k : Fin 8) g, s.grants.slots[k] = some g →
      g.Formed k s.grants.generations[k] ∧ ∀ i, g.entry = some i → (s.entry i).Bears g) ∧
    ∀ i, (s.entry i).Accounted (s.hasGrant i) := by
  constructor
  · rintro ⟨hgrants, hretiring, hsealed, hclosing⟩
    refine ⟨fun k g hk => ?_, fun i => ⟨hretiring i, hsealed i, hclosing i⟩⟩
    obtain ⟨h1, h2, h3, h4, h5⟩ := hgrants k g hk
    exact ⟨⟨h1, h2, h3, h4⟩, fun i hi => ⟨(h5 i hi).1, (h5 i hi).2⟩⟩
  · rintro ⟨hgrants, hentries⟩
    refine ⟨fun k g hk => ?_, fun i => (hentries i).retiring, fun i => (hentries i).sealed,
      fun i => (hentries i).closing⟩
    obtain ⟨⟨h1, h2, h3, h4⟩, h5⟩ := hgrants k g hk
    exact ⟨h1, h2, h3, h4, fun i hi => ⟨(h5 i hi).state, (h5 i hi).window⟩⟩

theorem Entry.Accounted.of_opened {e : Entry} {p : Prop} (h : e.state = .opened) : e.Accounted p := by
  constructor <;> simp [h]

theorem Entry.Accounted.of_free {e : Entry} {p : Prop} (h : e.state = .free) : e.Accounted p := by
  constructor <;> simp [h]

/-! ## Changes that issue no grant -/

/-- Where no grant is issued, the grants stay in order if each record still bears the grants left that name it and is
accounted for by them. -/
theorem State.grantsInOrder_of_no_issue (hgen : t.grants.generations = s.grants.generations)
    (hslots : ∀ (k : Fin 8) g, t.grants.slots[k] = some g → s.grants.slots[k] = some g)
    (hbears : ∀ (k : Fin 8) g i, t.grants.slots[k] = some g → g.entry = some i → (s.entry i).Bears g →
      (t.entry i).Bears g)
    (hacc : ∀ i, (s.entry i).Accounted (s.hasGrant i) → (t.entry i).Accounted (t.hasGrant i))
    (h : s.grantsInOrder) : t.grantsInOrder := by
  obtain ⟨hgrants, hentries⟩ := State.grantsInOrder_iff.mp h
  refine State.grantsInOrder_iff.mpr ⟨fun k g hk => ?_, fun i => hacc i (hentries i)⟩
  obtain ⟨hformed, hentry⟩ := hgrants k g (hslots k g hk)
  exact ⟨hgen ▸ hformed, fun i hi => hbears k g i hk hi (hentry i hi)⟩

theorem State.hasGrant_congr (h : t.grants.slots = s.grants.slots) (i : Fin 64) : t.hasGrant i ↔ s.hasGrant i := by
  simp only [State.hasGrant, h]

/-- A change of one record. -/
theorem State.grantsInOrder_of_record (i : Fin 64) (hgrants : t.grants = s.grants)
    (hne : ∀ j, j ≠ i → t.entry j = s.entry j)
    (hbears : ∀ g, (∃ k : Fin 8, s.grants.slots[k] = some g) → g.entry = some i → (s.entry i).Bears g →
      (t.entry i).Bears g)
    (hacc : (s.entry i).Accounted (s.hasGrant i) → (t.entry i).Accounted (s.hasGrant i))
    (h : s.grantsInOrder) : t.grantsInOrder := by
  refine State.grantsInOrder_of_no_issue (by rw [hgrants]) (by simp [hgrants]) ?_ ?_ h
  · intro k g j hk hj hb
    by_cases hij : j = i
    · subst hij
      exact hbears g ⟨k, by rwa [hgrants] at hk⟩ hj hb
    · rwa [hne j hij]
  · intro j hj
    rw [State.hasGrant_congr (s := s) (t := t) (by rw [hgrants])]
    by_cases hij : j = i
    · subst hij
      exact hacc hj
    · rwa [hne j hij]

theorem State.grantsInOrder_setEntry {i : Fin 64} {e : Entry}
    (hbears : ∀ g, (∃ k : Fin 8, s.grants.slots[k] = some g) → g.entry = some i → (s.entry i).Bears g → e.Bears g)
    (hacc : (s.entry i).Accounted (s.hasGrant i) → e.Accounted (s.hasGrant i)) (h : s.grantsInOrder) :
    (s.setEntry i e).grantsInOrder := by
  have he : (s.setEntry i e).entry i = e := s.entry_setEntry_same i e
  exact State.grantsInOrder_of_record i (by simp) (fun j hj => s.entry_setEntry_ne hj e) (by rwa [he]) (by rwa [he]) h

/-- A change of one record that leaves its state, its windows and its mark. -/
theorem State.grantsInOrder_modifyEntry_of_kept {i : Fin 64} {f : Entry → Entry}
    (hstate : (f (s.entry i)).state = (s.entry i).state) (hwindows : (f (s.entry i)).windows = (s.entry i).windows)
    (hverify : (f (s.entry i)).verify = (s.entry i).verify) (h : s.grantsInOrder) :
    (s.modifyEntry i f).grantsInOrder := by
  refine State.grantsInOrder_setEntry (fun g _ _ hb => ⟨?_, ?_⟩) (fun ha => ⟨?_, ?_, ?_⟩) h
  · rw [hstate]; exact hb.state
  · rw [hwindows]; exact hb.window
  · rw [hstate]; exact ha.retiring
  · rw [hstate, hverify]; exact ha.sealed
  · rw [hstate, hverify]; exact ha.closing

/-- A change of a record that no grant names. -/
theorem State.grantsInOrder_of_ungranted (i : Fin 64) (hi : ¬ s.hasGrant i) (hgrants : t.grants = s.grants)
    (hne : ∀ j, j ≠ i → t.entry j = s.entry j)
    (hacc : (s.entry i).Accounted False → (t.entry i).Accounted False) (h : s.grantsInOrder) : t.grantsInOrder := by
  refine State.grantsInOrder_of_record i hgrants hne (fun g hk hg _ => absurd ?_ hi) ?_ h
  · obtain ⟨k, hk⟩ := hk
    exact ⟨k, g, hk, hg⟩
  · rwa [eq_false hi]

theorem State.grantsInOrder_clearEntry {i : Fin 64} (hi : ¬ s.hasGrant i) (h : s.grantsInOrder) :
    (s.clearEntry i).grantsInOrder := by
  refine State.grantsInOrder_of_ungranted i hi (by simp) (fun j hj => s.entry_setEntry_ne hj _) (fun _ => ?_) h
  exact .of_free (by simp [State.clearEntry, Entry.cleared])

/-! ## The custody of an entry -/

theorem State.entry_sealEntry_same (s : State) (i : Fin 64) :
    (s.sealEntry i).entry i = { s.entry i with state := .sealed, sealed := some s.clock.driveClock } := by
  have htable : (s.sealEntry i).table =
      (s.modifyEntry i fun e => { e with state := .sealed, sealed := some s.clock.driveClock }).table := by
    simp only [State.sealEntry]
    split <;> simp
  rw [State.entry_congr htable, State.entry_modifyEntry_same]

theorem State.entry_sealEntry_ne (s : State) {i j : Fin 64} (h : j ≠ i) : (s.sealEntry i).entry j = s.entry j := by
  have htable : (s.sealEntry i).table =
      (s.modifyEntry i fun e => { e with state := .sealed, sealed := some s.clock.driveClock }).table := by
    simp only [State.sealEntry]
    split <;> simp
  rw [State.entry_congr htable, s.entry_modifyEntry_ne h]

/-- R56: an entry with neither a grant nor a mark is sealed. -/
theorem State.grantsInOrder_sealEntry {i : Fin 64} (hi : ¬ s.hasGrant i) (hv : (s.entry i).verify = false)
    (h : s.grantsInOrder) : (s.sealEntry i).grantsInOrder := by
  refine State.grantsInOrder_of_ungranted i hi (by simp) (fun j hj => s.entry_sealEntry_ne hj) (fun _ => ?_) h
  rw [State.entry_sealEntry_same]
  exact ⟨nofun, fun _ => ⟨id, hv⟩, nofun⟩

theorem State.entry_settleEntry_ne (s : State) {i j : Fin 64} (h : j ≠ i) : (s.settleEntry i).entry j = s.entry j := by
  simp only [State.settleEntry]
  split
  · rfl
  · split
    next => rw [State.entry_congr (State.raise_table _ _), State.clearEntry, s.entry_setEntry_ne h]
    next => split
            · rfl
            · exact s.entry_sealEntry_ne h
    all_goals rfl

theorem State.settleEntry_of_named {i : Fin 64} (h : s.hasGrant i) : s.settleEntry i = s :=
  if_pos (State.named_iff.mpr h)

/-- R46: a record that no grant names any longer is accounted for once it is settled, if it was not SEALED. -/
theorem State.settleEntry_accounted {i : Fin 64} (hi : ¬ s.hasGrant i) (hs : (s.entry i).state ≠ .sealed) :
    ((s.settleEntry i).entry i).Accounted False := by
  simp only [State.settleEntry, State.not_named hi, Bool.false_eq_true, if_false]
  split
  next =>
    rw [State.entry_congr (State.raise_table _ _), State.clearEntry, State.entry_setEntry_same]
    exact .of_free rfl
  next hc =>
    split
    next hv => exact ⟨by simp [hc], by simp [hc], fun _ => .inr hv⟩
    next hv =>
      rw [State.entry_sealEntry_same]
      exact ⟨nofun, fun _ => ⟨id, by simpa using hv⟩, nofun⟩
  next hf => exact .of_free hf
  next ho => exact .of_opened ho
  next hse => exact absurd hse hs

/-! ## Removing a grant (R46) -/

theorem State.slots_setGrant_none {k l : Fin 8} {g : Grant} (h : (s.setGrant k none).grants.slots[l] = some g) :
    l ≠ k ∧ s.grants.slots[l] = some g := by
  by_cases hl : l = k
  · subst hl
    rw [State.grant_setGrant_same] at h
    cases h
  · exact ⟨hl, by rwa [State.grant_setGrant_ne s hl] at h⟩

/-- A record that the removed grant does not name has a grant exactly where it had one. -/
theorem State.hasGrant_setGrant_none_iff {k : Fin 8} {g : Grant} {i : Fin 64} (hk : s.grants.slots[k] = some g)
    (hi : g.entry ≠ some i) : (s.setGrant k none).hasGrant i ↔ s.hasGrant i := by
  constructor
  · rintro ⟨l, g', hl, hg'⟩
    exact ⟨l, g', (State.slots_setGrant_none hl).2, hg'⟩
  · rintro ⟨l, g', hl, hg'⟩
    have hne : l ≠ k := by
      rintro rfl
      rw [hk] at hl
      cases hl
      exact hi hg'
    exact ⟨l, g', by rwa [State.grant_setGrant_ne s hne], hg'⟩

theorem State.removeGrant_grants (s : State) (k : Fin 8) (g : Grant) (f : Entry → Entry) :
    (s.removeGrant k g f).grants = (s.setGrant k none).grants := by
  simp only [State.removeGrant]
  split <;> simp

theorem State.entry_removeGrant_unmapped {k : Fin 8} {g : Grant} {f : Entry → Entry} (h : g.entry = none) (i : Fin 64) :
    (s.removeGrant k g f).entry i = s.entry i := by
  simp only [State.removeGrant, h]
  exact State.entry_congr (by simp) i

theorem State.entry_removeGrant_mapped {k : Fin 8} {g : Grant} {f : Entry → Entry} {i : Fin 64} (h : g.entry = some i)
    (j : Fin 64) :
    (s.removeGrant k g f).entry j = (((s.setGrant k none).modifyEntry i f).settleEntry i).entry j := by
  simp only [State.removeGrant, h]
  exact State.entry_congr (by simp) j

theorem State.grantsInOrder_removeGrant {k : Fin 8} {g : Grant} {f : Entry → Entry} (hk : s.grants.slots[k] = some g)
    (hstate : ∀ e, (f e).state = e.state) (hwindows : ∀ e, (f e).windows = e.windows) (h : s.grantsInOrder) :
    (s.removeGrant k g f).grantsInOrder := by
  have hgrants := s.removeGrant_grants k g f
  have hgranted : ∀ i, (s.removeGrant k g f).hasGrant i ↔ (s.setGrant k none).hasGrant i :=
    State.hasGrant_congr (by rw [hgrants])
  refine State.grantsInOrder_of_no_issue (by rw [hgrants]; rfl)
    (fun l g' hl => (State.slots_setGrant_none (by rwa [hgrants] at hl)).2) ?_ ?_ h
  · intro l g' j hl hj hb
    cases hi : g.entry with
    | none => rwa [State.entry_removeGrant_unmapped hi]
    | some i =>
      rw [State.entry_removeGrant_mapped hi]
      by_cases hij : j = i
      · subst hij
        have hleft : ((s.setGrant k none).modifyEntry j f).hasGrant j := by
          rw [State.hasGrant_congr (s := s.setGrant k none) (by simp)]
          exact ⟨l, g', by rwa [hgrants] at hl, hj⟩
        rw [State.settleEntry_of_named hleft, State.entry_modifyEntry_same]
        refine ⟨?_, ?_⟩
        · rw [hstate]; exact hb.state
        · rw [hwindows]; exact hb.window
      · rwa [State.entry_settleEntry_ne _ hij, State.entry_modifyEntry_ne _ hij]
  · intro j hj
    cases hi : g.entry with
    | none =>
      rw [State.entry_removeGrant_unmapped hi, hgranted, State.hasGrant_setGrant_none_iff hk (by simp [hi])]
      exact hj
    | some i =>
      rw [State.entry_removeGrant_mapped hi, hgranted]
      by_cases hij : j = i
      · subst hij
        have hback : ((s.setGrant k none).modifyEntry j f).hasGrant j ↔ (s.setGrant k none).hasGrant j :=
          State.hasGrant_congr (by simp) j
        have hbears := ((State.grantsInOrder_iff.mp h).1 k g hk).2 j hi
        by_cases hleft : (s.setGrant k none).hasGrant j
        · rw [State.settleEntry_of_named (hback.mpr hleft), State.entry_modifyEntry_same, eq_true hleft]
          refine ⟨fun _ => trivial, fun hsealed => ?_, fun _ => .inl trivial⟩
          rw [hstate] at hsealed
          rcases hbears.state with h1 | h1 | h1 <;> cases h1.symm.trans hsealed
        · rw [eq_false hleft]
          refine State.settleEntry_accounted (mt hback.mp hleft) ?_
          rw [State.entry_modifyEntry_same, hstate]
          rcases hbears.state with h1 | h1 | h1 <;> simp [State.entry_congr (s.setGrant_table k none), h1]
      · rw [State.entry_settleEntry_ne _ hij, State.entry_modifyEntry_ne _ hij,
          State.hasGrant_setGrant_none_iff hk (by simp [hi, Ne.symm hij])]
        exact hj

end Sys2Proof.Machine

/-! What every command does to the grant table: it keeps the grants in order, and only CHECK-WRITE and a cold start move a
generation (`exec_grantsStep`). -/

namespace Sys2Proof.Machine

variable {s t u : State}

/-! ## Events that leave the grant table as it is -/

section
variable (s : State)

@[simp] theorem State.answerFormed_grants : s.answerFormed.grants = s.grants := by
  unfold State.answerFormed; split <;> rfl
@[simp] theorem State.wakingEnds_grants : s.wakingEnds.grants = s.grants := by
  unfold State.wakingEnds; split <;> rfl
@[simp] theorem State.addressByte_grants (a : BitVec 7) (d : Dir) : (s.addressByte a d).grants = s.grants := by
  simp only [State.addressByte]; (repeat' split) <;> simp
@[simp] theorem State.missSample_grants : s.missSample.grants = s.grants := by
  simp only [State.missSample, State.enterBlind]; (repeat' split) <;> simp
@[simp] theorem State.transferFailed_grants : s.transferFailed.grants = s.grants := by
  simp [State.transferFailed]
@[simp] theorem State.sampleExpiry_grants : s.sampleExpiry.grants = s.grants := by
  simp only [State.sampleExpiry]; (repeat' split) <;> simp
@[simp] theorem State.setupEnds_grants (good : Bool) : (s.setupEnds good).grants = s.grants := by
  simp only [State.setupEnds]; (repeat' split) <;> simp
@[simp] theorem State.settleExpiry_grants : s.settleExpiry.grants = s.grants := by
  simp only [State.settleExpiry]; split <;> simp
@[simp] theorem State.supplySettles_grants : s.supplySettles.grants = s.grants := by
  simp only [State.supplySettles]; split <;> simp
@[simp] theorem State.spinTimesOut_grants : s.spinTimesOut.grants = s.grants := by
  simp [State.spinTimesOut]
@[simp] theorem State.unloads_grants : s.unloads.grants = s.grants := rfl
@[simp] theorem State.drdyRises_grants : s.drdyRises.grants = s.grants := by
  simp only [State.drdyRises]; split <;> simp
@[simp] theorem State.drdyFalls_grants : s.drdyFalls.grants = s.grants := by
  simp only [State.drdyFalls]; split <;> simp
@[simp] theorem State.periodEnds_grants (code volts : BitVec 16) : (s.periodEnds code volts).grants = s.grants := by
  simp only [State.periodEnds]; split <;> simp
@[simp] theorem State.sprsChanges_grants (present : Bool) : (s.sprsChanges present).grants = s.grants := by
  simp only [State.sprsChanges]; (repeat' split) <;> simp
@[simp] theorem State.dozeExpiry_grants : s.dozeExpiry.grants = s.grants := by
  simp only [State.dozeExpiry]; split <;> simp
@[simp] theorem State.setTarget_grants (target : Target) : (s.setTarget target).grants = s.grants := by
  simp only [State.setTarget, State.actOnTarget]; (repeat' split) <;> simp
@[simp] theorem State.setCharge_grants (mAh : Nat) : (s.setCharge mAh).grants = s.grants := by
  simp [State.setCharge]
@[simp] theorem State.setCycleDelay_grants (d : Nat) : (s.setCycleDelay d).grants = s.grants := by
  simp only [State.setCycleDelay]; (repeat' split) <;> simp

@[simp] theorem State.knock_grants (m2 : Nat) : (s.knock m2).grants = s.grants := by
  simp [State.knock]
@[simp] theorem State.enterFalling_grants (m2 : Nat) : (s.enterFalling m2).grants = s.grants := by
  simp [State.enterFalling]
@[simp] theorem State.lowSample_grants (m2 : Nat) (next : GuardState) : (s.lowSample m2 next).grants = s.grants := by
  simp only [State.lowSample, State.setRun]; split <;> simp
@[simp] theorem State.sampleInCalm_grants (m2 : Nat) (c : SampleClass) : (s.sampleInCalm m2 c).grants = s.grants := by
  cases c <;> simp [State.sampleInCalm, State.setRun]
@[simp] theorem State.sampleInWatch_grants (m2 : Nat) (c : SampleClass) : (s.sampleInWatch m2 c).grants = s.grants := by
  cases c <;> simp [State.sampleInWatch, State.setRun]
@[simp] theorem State.sampleInFalling_grants (c : SampleClass) : (s.sampleInFalling c).grants = s.grants := by
  cases c <;> simp only [State.sampleInFalling, State.setRun, State.landed] <;> (repeat' split) <;> simp
@[simp] theorem State.sampleInSettle_grants (m2 : Nat) (c : SampleClass) :
    (s.sampleInSettle m2 c).grants = s.grants := by
  cases c <;> simp [State.sampleInSettle, State.setRun]
@[simp] theorem State.leaveBlind_grants : s.leaveBlind.grants = s.grants := by
  unfold State.leaveBlind; split <;> simp
@[simp] theorem State.takeSample_grants (m2 : Nat) (c : SampleClass) : (s.takeSample m2 c).grants = s.grants := by
  simp only [State.takeSample]; split <;> simp
@[simp] theorem State.readEnds_grants (sample : Option Sample) : (s.readEnds sample).grants = s.grants := by
  simp only [State.readEnds]; (repeat' split) <;> simp

theorem State.phaseExpiry_grants {f : State → State} (h : (f s).grants = s.grants) (state : SeqState) :
    (s.phaseExpiry state f).grants = s.grants := by
  unfold State.phaseExpiry; split
  · exact h
  · rfl

theorem State.event_grants {f : State → State} (h : (f s).grants = s.grants) : (s.event f).grants = s.grants := by
  unfold State.event; split
  · rfl
  · simpa using h

theorem State.onBus_grants {f : State → State} (h : (f s).grants = s.grants) (c : Instr) :
    (s.onBus c f).grants = s.grants := by
  unfold State.onBus; split
  · exact s.event_grants rfl
  · exact s.event_grants h

variable (p : List Byte)

theorem serveReadStatus_grants : (serveReadStatus p s).1.grants = s.grants := by
  unfold serveReadStatus; split <;> rfl
theorem serveClearAttention_grants : (serveClearAttention p s).1.grants = s.grants := by
  unfold serveClearAttention; (repeat' split) <;> rfl
theorem serveSetClock_grants : (serveSetClock p s).1.grants = s.grants := by
  unfold serveSetClock; split <;> rfl
theorem serveSetTarget_grants : (serveSetTarget p s).1.grants = s.grants := by
  unfold serveSetTarget; split <;> simp [State.unchanged]
theorem serveSetCharge_grants : (serveSetCharge p s).1.grants = s.grants := by
  unfold serveSetCharge; split <;> simp [State.unchanged]

/-! A request that reports leaves the state as it is. -/

theorem serveReadParam_state : (serveReadParam p s).1 = s := by
  unfold serveReadParam; (repeat' split) <;> rfl
theorem serveReadClock_state : (serveReadClock p s).1 = s := by
  unfold serveReadClock; split <;> rfl
theorem serveReadGrants_state : (serveReadGrants p s).1 = s := by
  unfold serveReadGrants; split <;> rfl
theorem serveReadGuard_state : (serveReadGuard p s).1 = s := by
  unfold serveReadGuard; split <;> rfl
theorem serveReadMechanism_state : (serveReadMechanism p s).1 = s := by
  unfold serveReadMechanism; split <;> rfl
theorem serveReadGauge_state : (serveReadGauge p s).1 = s := by
  unfold serveReadGauge; split <;> rfl
theorem serveFindBlock_state : (serveFindBlock p s).1 = s := by
  unfold serveFindBlock; (repeat' split) <;> rfl
theorem serveReadEntry_state : (serveReadEntry p s).1 = s := by
  unfold serveReadEntry; (repeat' split) <;> rfl
theorem serveNextEntry_state : (serveNextEntry p s).1 = s := by
  unfold serveNextEntry; (repeat' split) <;> rfl
theorem serveFindSurvey_state : (serveFindSurvey p s).1 = s := by
  unfold serveFindSurvey State.onSurvey; (repeat' split) <;> rfl

end

/-! ## One command's step -/

/-- R30, R40: a grant was issued in slot k. -/
structure State.Issued (k : Fin 8) (s t : State) : Prop where
  generation : t.grants.generations[k] = s.grants.generations[k] + 1
  free : s.grants.slots[k] = none
  grant : ∃ g, t.grants.slots[k] = some g ∧ g.tag = t.grants.generations[k].val * 8 + k.val

/-- What a command does to the grants: they stay in order, and a generation moves only where a grant is issued, which `may` be
so. -/
structure State.GrantsStep (may : Prop) (s t : State) : Prop where
  inOrder : s.grantsInOrder → t.grantsInOrder
  generation : ∀ k : Fin 8, t.grants.generations[k] = s.grants.generations[k] ∨ (may ∧ State.Issued k s t)

variable {may : Prop}

theorem State.GrantsStep.of_inOrder (hgen : t.grants.generations = s.grants.generations)
    (h : s.grantsInOrder → t.grantsInOrder) : State.GrantsStep may s t :=
  ⟨h, fun k => .inl (by rw [hgen])⟩

theorem State.GrantsStep.of_eq (ht : t.table = s.table) (hg : t.grants = s.grants) : State.GrantsStep may s t :=
  .of_inOrder (by rw [hg]) (State.grantsInOrder_of_eq ht hg)

theorem State.GrantsStep.refl (s : State) : State.GrantsStep may s s := .of_eq rfl rfl

theorem State.GrantsStep.congr_left (ht : t.table = s.table) (hg : t.grants = s.grants)
    (h : State.GrantsStep may t u) : State.GrantsStep may s u where
  inOrder := h.inOrder ∘ State.grantsInOrder_of_eq ht hg
  generation k := by
    rcases h.generation k with hk | ⟨hm, hi⟩
    · exact .inl (by rw [hk, hg])
    · exact .inr ⟨hm, by rw [hi.generation, hg], by rw [← hg, hi.free], hi.grant⟩

theorem State.GrantsStep.congr_right (ht : u.table = t.table) (hg : u.grants = t.grants)
    (h : State.GrantsStep may s t) : State.GrantsStep may s u where
  inOrder := State.grantsInOrder_of_eq ht hg ∘ h.inOrder
  generation k := by
    rcases h.generation k with hk | ⟨hm, hi⟩
    · exact .inl (by rw [hg, hk])
    · exact .inr ⟨hm, by rw [hg, hi.generation], hi.free, by rw [hg]; exact hi.grant⟩

theorem State.GrantsStep.event {f : State → State} (h : State.GrantsStep may s (f s)) :
    State.GrantsStep may s (s.event f) := by
  unfold State.event
  split
  · exact .refl s
  · exact h.congr_right (by simp) (by simp)

theorem State.GrantsStep.transfer {c : Instr} {dir : Dir} {lost start : Link → Link} {rest : State → State}
    (h : ∀ b : State, State.GrantsStep may b (rest b)) : State.GrantsStep may s (s.transfer c dir lost start rest) := by
  unfold State.transfer
  split
  · exact .of_eq rfl rfl
  · split
    · exact .event (.of_eq rfl rfl)
    · split
      · exact .of_eq rfl rfl
      · split
        · exact .of_eq (by simp) (by simp)
        · split
          · exact .of_eq rfl rfl
          · exact .congr_right (State.dozeFollows_table _ _) (State.dozeFollows_grants _ _)
              (.congr_left (by simp) (by simp) (h _))

theorem State.GrantsStep.request {serve : List Byte → State → Served}
    (h : ∀ p (b : State), State.GrantsStep may b (serve p b).1) (c : Instr) (code : Byte) (payload : List Byte) :
    State.GrantsStep may s (s.request c code payload serve) := by
  refine .transfer fun b => ?_
  split
  · exact .congr_right (State.answerWrite_table _ _) (State.answerWrite_grants _ _) (h _ b)
  all_goals exact .of_eq rfl rfl

theorem State.GrantsStep.onSurvey {n : Nat} {act : Fin 64 → Served}
    (h : ∀ i, State.GrantsStep may s (act i).1) : State.GrantsStep may s (s.onSurvey n act).1 := by
  unfold State.onSurvey
  split
  · exact .refl s
  · split
    · exact .refl s
    next i _ => exact h i

theorem State.GrantsStep.modifyEntry_of_kept {i : Fin 64} {f : Entry → Entry}
    (hstate : (f (s.entry i)).state = (s.entry i).state) (hwindows : (f (s.entry i)).windows = (s.entry i).windows)
    (hverify : (f (s.entry i)).verify = (s.entry i).verify) : State.GrantsStep may s (s.modifyEntry i f) :=
  .of_inOrder (by simp) (State.grantsInOrder_modifyEntry_of_kept hstate hwindows hverify)

/-! ## The requests on the Survey Table -/

/-- R3: a FREE record has no grant. -/
theorem State.not_hasGrant_of_free {i : Fin 64} (h : s.grantsInOrder) (hi : (s.entry i).state = .free) :
    ¬ s.hasGrant i :=
  fun hg => State.live_of_hasGrant h hg hi

/-- A record built in a FREE slot: one that waits for nothing and has no mark. -/
theorem State.grantsInOrder_setEntry_free {i : Fin 64} {e : Entry} (hi : (s.entry i).state = .free)
    (he : e.Accounted False) (h : s.grantsInOrder) : (s.setEntry i e).grantsInOrder :=
  State.grantsInOrder_of_ungranted i (State.not_hasGrant_of_free h hi) (by simp)
    (fun _ hj => s.entry_setEntry_ne hj e) (fun _ => by rwa [State.entry_setEntry_same]) h

theorem State.free_of_lowestFree {i : Fin 64} (h : s.lowestFree = some i) : (s.entry i).state = .free := by
  simpa using List.find?_some h

theorem grantsStep_serveOpenSurvey (p : List Byte) (s : State) : State.GrantsStep may s (serveOpenSurvey p s).1 := by
  unfold serveOpenSurvey
  split
  · exact .refl s
  · split
    · exact .refl s
    · exact .refl s
    next i _ hi =>
      refine .congr_right (t := s.setEntry i _) (State.openChanged_table _) (State.openChanged_grants _)
        (.of_inOrder (by simp) (State.grantsInOrder_setEntry_free (State.free_of_lowestFree hi) ?_))
      exact .of_opened rfl

theorem grantsStep_serveRestore (p : List Byte) (s : State) : State.GrantsStep may s (serveRestore p s).1 := by
  unfold serveRestore
  split
  · exact .refl s
  · split
    · exact .refl s
    · exact .refl s
    next i _ hi =>
      refine .of_inOrder (by simp) (State.grantsInOrder_setEntry_free (State.free_of_lowestFree hi) ?_)
      exact ⟨nofun, fun _ => ⟨id, rfl⟩, nofun⟩

theorem Entry.Bears.addWindow {e : Entry} {g : Grant} (h : e.Bears g) (w : Window) : (e.addWindow w).Bears g := by
  obtain ⟨v, hv, hin⟩ := h.window
  obtain ⟨hlt, -⟩ := List.getElem?_eq_some_iff.mp hv
  exact ⟨h.state, v, (List.getElem?_append_left hlt).trans hv, hin⟩

theorem Entry.Bears.dropWindow {e : Entry} {g : Grant} (h : e.Bears g) (hne : g.window ≠ e.windows.length - 1) :
    e.dropWindow.Bears g := by
  obtain ⟨v, hv, hin⟩ := h.window
  obtain ⟨hlt, -⟩ := List.getElem?_eq_some_iff.mp hv
  refine ⟨h.state, v, ?_, hin⟩
  rw [Entry.dropWindow, List.getElem?_dropLast, if_pos (by omega)]
  exact hv

theorem grantsStep_serveAddWindow (p : List Byte) (s : State) : State.GrantsStep may s (serveAddWindow p s).1 := by
  unfold serveAddWindow
  split
  · exact .refl s
  · split
    · exact .refl s
    · refine .onSurvey fun i => ?_
      split
      · exact .refl s
      · refine .of_inOrder (by simp) (State.grantsInOrder_setEntry (fun g _ _ hb => hb.addWindow _) fun ha => ?_)
        exact ⟨ha.retiring, ha.sealed, ha.closing⟩

theorem grantsStep_serveDropWindow (p : List Byte) (s : State) : State.GrantsStep may s (serveDropWindow p s).1 := by
  unfold serveDropWindow
  split
  · exact .refl s
  · refine .onSurvey fun i => ?_
    split
    · exact .refl s
    · exact .refl s
    next h _ =>
      obtain ⟨-, -, hin⟩ := State.dropRefusal_eq_none_iff.mp h
      refine .of_inOrder (by simp) (State.grantsInOrder_setEntry (fun g hk hg hb => hb.dropWindow fun hw => ?_)
        fun ha => ⟨ha.retiring, ha.sealed, ha.closing⟩)
      obtain ⟨k, hk⟩ := hk
      exact Bool.false_ne_true (hin.symm.trans (State.grantIn_iff.mpr ⟨k, g, hk, hg, hw⟩))

theorem grantsStep_serveRename (p : List Byte) (s : State) : State.GrantsStep may s (serveRename p s).1 := by
  unfold serveRename
  split
  · exact .refl s
  · split
    · exact .refl s
    · exact .onSurvey fun i => .modifyEntry_of_kept rfl rfl rfl

theorem grantsStep_serveSetHold (p : List Byte) (s : State) : State.GrantsStep may s (serveSetHold p s).1 := by
  unfold serveSetHold
  split
  · exact .refl s
  · exact .onSurvey fun i => .modifyEntry_of_kept rfl rfl rfl

/-! ## The custody of an entry -/

theorem State.not_hasGrant_of_not_named {i : Fin 64} (h : ¬ s.named i = true) : ¬ s.hasGrant i :=
  mt State.named_iff.mpr h

/-- A change of a granted or marked record's state to one that waits, or to OPEN. -/
theorem State.grantsInOrder_withState {i : Fin 64} {state : EntryState}
    (hstate : state = .opened ∨ state = .closing ∨ state = .retiring)
    (hacc : ((s.entry i).withState state).Accounted (s.hasGrant i)) (h : s.grantsInOrder) :
    (s.modifyEntry i (Entry.withState state)).grantsInOrder :=
  State.grantsInOrder_setEntry (fun _ _ _ hb => ⟨hstate, hb.window⟩) (fun _ => hacc) h

theorem grantsStep_sealAt (s : State) (i : Fin 64) (n : Nat) : State.GrantsStep may s (s.sealAt i n).1 := by
  unfold State.sealAt
  split
  · split
    next h =>
      refine .of_inOrder (by simp [State.servedState])
        (State.grantsInOrder_withState (.inr (.inl rfl)) ⟨nofun, nofun, fun _ => ?_⟩)
      rwa [Bool.or_eq_true, State.named_iff] at h
    next h =>
      rw [Bool.or_eq_true, not_or, Bool.not_eq_true (s.entry i).verify] at h
      exact .of_inOrder (by simp [State.servedState])
        (State.grantsInOrder_sealEntry (State.not_hasGrant_of_not_named h.1) h.2)
  all_goals exact .refl s

theorem grantsStep_verifiedAt (s : State) (i : Fin 64) (n : Nat) : State.GrantsStep may s (s.verifiedAt i n).1 := by
  unfold State.verifiedAt
  split
  next ho =>
    split
    · exact .refl s
    next h =>
      refine .of_inOrder (by simp [State.servedState]) (State.grantsInOrder_of_ungranted i
        (State.not_hasGrant_of_not_named h) (by simp [State.servedState])
        (fun j hj => s.entry_modifyEntry_ne hj _) fun _ => .of_opened ?_)
      exact (congrArg Entry.state (s.entry_modifyEntry_same i _)).trans ho
  · split
    · exact .refl s
    next h =>
      refine .of_inOrder (by simp [State.servedState]) (State.grantsInOrder_of_ungranted i
        (State.not_hasGrant_of_not_named h) (by simp [State.servedState])
        (fun j hj => (State.entry_sealEntry_ne _ hj).trans (s.entry_modifyEntry_ne hj _)) fun _ => ?_)
      have he : ((s.modifyEntry i Entry.unmark).sealEntry i).entry i = { s.entry i with
          verify := false, state := .sealed, sealed := some s.clock.driveClock } := by
        rw [State.entry_sealEntry_same, State.entry_modifyEntry_same, State.modifyEntry_clock]
        rfl
      exact he.symm ▸ ⟨nofun, fun _ => ⟨id, rfl⟩, nofun⟩
  all_goals exact .refl s

theorem grantsStep_reopenAt (s : State) (i : Fin 64) (n : Nat) : State.GrantsStep may s (s.reopenAt i n).1 := by
  unfold State.reopenAt
  split
  · exact .of_inOrder (by simp [State.servedState]) (State.grantsInOrder_withState (.inl rfl) (.of_opened rfl))
  all_goals exact .refl s

theorem grantsStep_retireAt (s : State) (i : Fin 64) (n : Nat) : State.GrantsStep may s (s.retireAt i n).1 := by
  have hwaits : State.GrantsStep may s (if s.named i = true then
      (s.modifyEntry i (Entry.withState .retiring)).openChanged.servedState i n
      else ((s.clearEntry i).openChanged, freedAnswer i n)).1 := by
    split
    next h =>
      refine .congr_right (t := s.modifyEntry i (Entry.withState .retiring)) (by simp [State.servedState])
        (by simp [State.servedState]) (.of_inOrder (by simp) (State.grantsInOrder_withState (.inr (.inr rfl)) ?_))
      exact ⟨fun _ => State.named_iff.mp h, nofun, nofun⟩
    next h =>
      exact .congr_right (t := s.clearEntry i) (by simp) (by simp)
        (.of_inOrder (by simp) (State.grantsInOrder_clearEntry (State.not_hasGrant_of_not_named h)))
  unfold State.retireAt
  split
  · exact .refl s
  · split
    next hs =>
      refine .of_inOrder (by simp) fun h => State.grantsInOrder_clearEntry ?_ h
      exact (((State.grantsInOrder_iff.mp h).2 i).sealed hs).1
    next => exact hwaits
    next => exact hwaits
    all_goals exact .refl s

theorem grantsStep_serveSeal (p : List Byte) (s : State) : State.GrantsStep may s (serveSeal p s).1 := by
  unfold serveSeal
  split
  · exact .refl s
  · exact .onSurvey fun i => grantsStep_sealAt s i _

theorem grantsStep_serveVerified (p : List Byte) (s : State) : State.GrantsStep may s (serveVerified p s).1 := by
  unfold serveVerified
  split
  · exact .refl s
  · exact .onSurvey fun i => grantsStep_verifiedAt s i _

theorem grantsStep_serveReopen (p : List Byte) (s : State) : State.GrantsStep may s (serveReopen p s).1 := by
  unfold serveReopen
  split
  · exact .refl s
  · exact .onSurvey fun i => grantsStep_reopenAt s i _

theorem grantsStep_serveRetire (p : List Byte) (s : State) : State.GrantsStep may s (serveRetire p s).1 := by
  unfold serveRetire
  split
  · exact .refl s
  · exact .onSurvey fun i => grantsStep_retireAt s i _

/-! ## The starts -/

theorem State.not_hasGrant_of_emptied (h : t.grants = s.grants.emptied) (i : Fin 64) : ¬ t.hasGrant i := by
  rintro ⟨k, g, hk, -⟩
  simp [h, GrantTable.emptied] at hk

/-- R28, R53: the settling marks the records with a grant and frees the RETIRING ones, and the grants are gone. -/
theorem State.grantsInOrder_start (htable : t.table = s.settledStart.table) (hgrants : t.grants = s.grants.emptied)
    (h : s.grantsInOrder) : t.grantsInOrder := by
  obtain ⟨hfreed, hmarked, hkept⟩ := entries_after_start htable
  have hnone := State.not_hasGrant_of_emptied hgrants
  refine State.grantsInOrder_of_no_issue (by rw [hgrants]; rfl) ?_ ?_ ?_ h
  · intro k g hk
    simp [hgrants, GrantTable.emptied] at hk
  · intro k g i hk hi
    exact absurd ⟨k, g, hk, hi⟩ (hnone i)
  · intro i ha
    rw [eq_false (hnone i)]
    by_cases hr : (s.entry i).state = .retiring
    · rw [hfreed i hr]
      exact .of_free rfl
    · by_cases hg : s.hasGrant i
      · rw [hmarked i hr hg]
        exact ⟨fun h' => absurd h' hr, fun h' => absurd hg (ha.sealed h').1, fun _ => .inr rfl⟩
      · rw [hkept i hr hg]
        rwa [eq_false hg] at ha

theorem grantsStep_serveRestart (p : List Byte) (s : State) : State.GrantsStep may s (serveRestart p s).1 := by
  unfold serveRestart
  split
  · exact .refl s
  · exact .of_inOrder (by simp [GrantTable.emptied]) (State.grantsInOrder_start s.restart_table s.restart_grants)

theorem State.grantsInOrder_cold (sprs adsel : Bool) (pins : Pins) (n : Nat) (q : List Instr) :
    (State.cold sprs adsel pins n q).grantsInOrder := by
  refine State.grantsInOrder_iff.mpr ⟨fun k g hk => ?_, fun i => .of_free ?_⟩
  · simp [State.cold] at hk
  · simp [State.entry, State.cold, Entry.cleared]

/-! ## The grants themselves -/

theorem State.lookup_covered {b : Nat} {i : Fin 64} {k : Nat} {w : Window} (h : s.lookup b = .covered i k w) :
    (s.entry i).windows[k]? = some w ∧ w.base ≤ b := by
  unfold State.lookup at h
  split at h
  next hf =>
    cases h
    obtain ⟨-, hw⟩ := State.mem_liveWindows.mp (List.mem_of_find?_eq_some hf)
    exact ⟨hw, ((Window.contains_iff w b).mp
      (List.find?_some (p := fun (x : Fin 64 × Nat × Window) => x.2.2.contains b) hf)).1⟩
  · cases h

theorem State.free_of_lowestFreeGrant {k : Fin 8} (h : s.lowestFreeGrant = some k) : s.grants.slots[k] = none := by
  simpa using List.find?_some h

theorem State.grant_issueGrant_same (s : State) (k : Fin 8) (slot : Option (Fin 64)) (window first count : Nat) :
    (s.issueGrant k slot window first count).grants.slots[k] = some
      { tag := (s.grants.generations[k] + 1).val * 8 + k.val, entry := slot, window := window, first := first,
        count := count, remaining := s.grants.timeout } :=
  State.grant_setGrant_same _ k _

theorem State.grant_issueGrant_ne (s : State) {k l : Fin 8} (h : l ≠ k) (slot : Option (Fin 64))
    (window first count : Nat) :
    (s.issueGrant k slot window first count).grants.slots[l] = s.grants.slots[l] :=
  State.grant_setGrant_ne _ h _

theorem State.generation_issueGrant_same (s : State) (k : Fin 8) (slot : Option (Fin 64)) (window first count : Nat) :
    (s.issueGrant k slot window first count).grants.generations[k] = s.grants.generations[k] + 1 := by
  simp [State.issueGrant, State.setGrant]

theorem State.generation_issueGrant_ne (s : State) {k l : Fin 8} (h : l ≠ k) (slot : Option (Fin 64))
    (window first count : Nat) :
    (s.issueGrant k slot window first count).grants.generations[l] = s.grants.generations[l] := by
  have : k.val ≠ l.val := fun h' => h (Fin.ext h'.symm)
  simp [State.issueGrant, State.setGrant, this]

/-- An issued grant names its entry, and every other record has a grant exactly where it had one. -/
theorem State.hasGrant_issueGrant_iff {k : Fin 8} (hk : s.grants.slots[k] = none) (slot : Option (Fin 64))
    (window first count : Nat) (i : Fin 64) :
    (s.issueGrant k slot window first count).hasGrant i ↔ s.hasGrant i ∨ slot = some i := by
  constructor
  · rintro ⟨l, g, hl, hg⟩
    by_cases hlk : l = k
    · subst hlk
      rw [State.grant_issueGrant_same] at hl
      cases hl
      exact .inr hg
    · exact .inl ⟨l, g, by rwa [s.grant_issueGrant_ne hlk] at hl, hg⟩
  · rintro (⟨l, g, hl, hg⟩ | rfl)
    · have hlk : l ≠ k := by
        rintro rfl
        rw [hk] at hl
        cases hl
      exact ⟨l, g, by rwa [s.grant_issueGrant_ne hlk], hg⟩
    · exact ⟨k, _, s.grant_issueGrant_same k _ window first count, rfl⟩

/-- R29, R30: a grant issued in a free slot for a range inside a window of an OPEN entry, or for an unmapped range. -/
theorem State.grantsInOrder_issueGrant {k : Fin 8} {slot : Option (Fin 64)} {window first count : Nat}
    (hk : s.grants.slots[k] = none) (hpos : 1 ≤ count) (hle : count ≤ 65535) (hunmapped : slot = none → window = 0)
    (hmapped : ∀ i, slot = some i → (s.entry i).state = .opened ∧
      ∃ w, (s.entry i).windows[window]? = some w ∧ w.base ≤ first ∧ first + count ≤ w.base + 2 ^ (w.cls + 4))
    (h : s.grantsInOrder) : (s.issueGrant k slot window first count).grantsInOrder := by
  obtain ⟨hgrants, hentries⟩ := State.grantsInOrder_iff.mp h
  have hentry : ∀ i, (s.issueGrant k slot window first count).entry i = s.entry i :=
    State.entry_congr (State.issueGrant_table ..)
  refine State.grantsInOrder_iff.mpr ⟨fun l g hl => ?_, fun i => ?_⟩
  · by_cases hlk : l = k
    · subst hlk
      rw [State.grant_issueGrant_same] at hl
      cases hl
      rw [State.generation_issueGrant_same]
      refine ⟨⟨rfl, hpos, hle, hunmapped⟩, fun i hi => ?_⟩
      rw [hentry]
      exact ⟨.inl (hmapped i hi).1, (hmapped i hi).2⟩
    · rw [s.grant_issueGrant_ne hlk] at hl
      rw [s.generation_issueGrant_ne hlk]
      exact ⟨(hgrants l g hl).1, fun i hi => hentry i ▸ (hgrants l g hl).2 i hi⟩
  · rw [hentry]
    by_cases hi : slot = some i
    · exact .of_opened (hmapped i hi).1
    · simpa only [State.hasGrant_issueGrant_iff hk, hi, or_false] using hentries i

theorem State.issued_issueGrant {k : Fin 8} (hk : s.grants.slots[k] = none) (slot : Option (Fin 64))
    (window first count : Nat) : State.Issued k s (s.issueGrant k slot window first count) where
  generation := s.generation_issueGrant_same k slot window first count
  free := hk
  grant := ⟨_, s.grant_issueGrant_same k slot window first count, by rw [State.generation_issueGrant_same]⟩

theorem grantsStep_grantOrHold {slot : Option (Fin 64)} {window first count : Nat} (hmay : may) (hpos : 1 ≤ count)
    (hle : count ≤ 65535) (hunmapped : slot = none → window = 0)
    (hmapped : ∀ i, slot = some i → (s.entry i).state = .opened ∧
      ∃ w, (s.entry i).windows[window]? = some w ∧ w.base ≤ first ∧ first + count ≤ w.base + 2 ^ (w.cls + 4)) :
    State.GrantsStep may s (s.grantOrHold slot window first count).1 := by
  unfold State.grantOrHold
  split
  · exact .refl s
  · exact .refl s
  next k _ hfree =>
    have hk := State.free_of_lowestFreeGrant hfree
    have hissue : State.GrantsStep may s (s.issueGrant k slot window first count) := by
      refine ⟨State.grantsInOrder_issueGrant hk hpos hle hunmapped hmapped, fun l => ?_⟩
      by_cases hlk : l = k
      · subst hlk
        exact .inr ⟨hmay, State.issued_issueGrant hk slot window first count⟩
      · exact .inl (s.generation_issueGrant_ne hlk slot window first count)
    cases slot with
    | none => exact hissue
    | some i =>
      refine ⟨fun h => State.grantsInOrder_modifyEntry_of_kept rfl rfl rfl (hissue.inOrder h), fun l => ?_⟩
      rcases hissue.generation l with hl | ⟨hm, hi⟩
      · exact .inl (by rw [← hl, State.modifyEntry_grants])
      · exact .inr ⟨hm, by rw [State.modifyEntry_grants]; exact hi.generation, hi.free,
          by rw [State.modifyEntry_grants]; exact hi.grant⟩

theorem Window.last_lt_iff {w : Window} {first count : Nat} :
    w.last < first + count - 1 ↔ w.base + 2 ^ (w.cls + 4) < first + count := by
  have : 0 < 2 ^ (w.cls + 4) := Nat.two_pow_pos _
  unfold Window.last Window.length
  omega

theorem grantsStep_serveCheckWrite (hmay : may) (p : List Byte) (s : State) :
    State.GrantsStep may s (serveCheckWrite p s).1 := by
  unfold serveCheckWrite
  split
  · exact .refl s
  next first count hp =>
    have hle : count ≤ 65535 := by
      unfold readCheck at hp
      split at hp
      · cases hp
        exact nat2_le _ _
      · cases hp
    unfold State.checkRange
    split
    · exact .refl s
    next hcount =>
      have hpos : 1 ≤ count := Nat.one_le_iff_ne_zero.mpr hcount
      split
      · exact .refl s
      · split
        next i k w hlook =>
          obtain ⟨hw, hbase⟩ := State.lookup_covered hlook
          unfold State.checkCovered
          split
          · exact .refl s
          next hlast =>
            split
            next ho =>
              refine grantsStep_grantOrHold hmay hpos hle nofun ?_
              rintro j ⟨⟩
              rw [Window.last_lt_iff, not_lt] at hlast
              exact ⟨ho, w, hw, hbase, hlast⟩
            · exact .refl s
        next =>
          unfold State.checkUncovered
          split
          · exact .refl s
          · split
            · exact .refl s
            · exact grantsStep_grantOrHold hmay hpos hle (fun _ => rfl) nofun

theorem Entry.doneEffect_state (result n : Nat) (e : Entry) : (doneEffect result n e).state = e.state := by
  unfold doneEffect; split <;> rfl
theorem Entry.doneEffect_windows (result n : Nat) (e : Entry) : (doneEffect result n e).windows = e.windows := by
  unfold doneEffect; split <;> rfl

theorem State.removeGrant_generations (s : State) (k : Fin 8) (g : Grant) (f : Entry → Entry) :
    (s.removeGrant k g f).grants.generations = s.grants.generations := by
  rw [State.removeGrant_grants]
  rfl

theorem grantsStep_serveWriteDone (p : List Byte) (s : State) : State.GrantsStep may s (serveWriteDone p s).1 := by
  unfold serveWriteDone
  split
  · exact .refl s
  · split
    · exact .refl s
    · split
      · exact .refl s
      next h =>
        exact .of_inOrder (s.removeGrant_generations _ _ _) (State.grantsInOrder_removeGrant
          (State.slots_of_grantOfTag h) (Entry.doneEffect_state _ _) (Entry.doneEffect_windows _ _))

theorem grantsStep_expireGrant (s : State) (k : Fin 8) : State.GrantsStep may s (s.expireGrant k) := by
  unfold State.expireGrant
  split
  · exact .refl s
  next hk =>
    split
    · exact .congr_left (t := s.raise .expired) (by simp) (by simp) (.of_inOrder (State.removeGrant_generations _ _ _ _)
        (State.grantsInOrder_removeGrant (by simpa using hk) (fun _ => rfl) (fun _ => rfl)))
    · exact .refl s

theorem grantsStep_setParam (s : State) (q : Param) (v : Nat) : State.GrantsStep may s (s.setParam q v) := by
  cases q
  case mediaLimit => exact .of_inOrder rfl id
  case unmappedPolicy => exact .of_inOrder rfl id
  case grantTimeout => exact .of_inOrder rfl id
  all_goals exact .of_eq (by simp [State.setParam]) (by simp [State.setParam])

theorem grantsStep_serveSetParam (p : List Byte) (s : State) : State.GrantsStep may s (serveSetParam p s).1 := by
  unfold serveSetParam
  split
  · exact .refl s
  · split
    · exact .refl s
    · split
      · exact .refl s
      · exact grantsStep_setParam s _ _

/-! ## The events -/

/-- R48: a jolt marking marks the records that a grant names, none of which is SEALED. -/
theorem State.grantsInOrder_joltMarking (h : s.grantsInOrder) : s.joltMarking.grantsInOrder := by
  have hentry (i : Fin 64) : s.joltMarking.entry i = if s.named i then (s.entry i).jolt else s.entry i :=
    s.entry_mapEntries _ i
  refine State.grantsInOrder_of_no_issue (by simp) (by simp) (fun k g i _ _ hb => ?_) (fun i ha => ?_) h
  · rw [hentry]
    split
    · exact ⟨hb.state, hb.window⟩
    · exact hb
  · rw [hentry, State.hasGrant_congr (s := s) (by simp)]
    split
    next hn =>
      exact ⟨ha.retiring, fun hs => absurd (State.named_iff.mp hn) (ha.sealed hs).1, fun _ => .inr rfl⟩
    next => exact ha

theorem State.GrantsStep.of_joltedTo (h : s.JoltedTo t) (hg : t.grants = s.grants) : State.GrantsStep may s t := by
  rcases h with h | h
  · exact .of_eq h hg
  · exact .congr_right h (by simp [hg]) (.of_inOrder (by simp) State.grantsInOrder_joltMarking)

theorem grantsStep_refusedWrite (s : State) (c : Instr) (v : Verdict) (code : Code) (bytes : List Byte) :
    State.GrantsStep may s (s.refusedWrite c v code bytes) := by
  unfold State.refusedWrite
  split
  · exact .transfer fun b => .of_eq (by simp) (by simp)
  · exact .refl s

theorem State.slots_tickTimers (s : State) (k : Fin 8) (g : Grant) :
    s.tickTimers.grants.slots[k] = some g ↔ ∃ g', s.grants.slots[k] = some g' ∧ g'.tick = g := by
  simp [State.tickTimers]

theorem State.hasGrant_tickTimers (s : State) (i : Fin 64) : s.tickTimers.hasGrant i ↔ s.hasGrant i := by
  simp only [State.hasGrant, State.slots_tickTimers]
  constructor
  · rintro ⟨k, _, ⟨g, hk, rfl⟩, hg⟩
    exact ⟨k, g, hk, hg⟩
  · rintro ⟨k, g, hk, hg⟩
    exact ⟨k, g.tick, ⟨g, hk, rfl⟩, hg⟩

/-- A tick moves the deadlines alone. -/
theorem State.grantsInOrder_tick (h : s.grantsInOrder) : s.tick.grantsInOrder := by
  have htimers : s.tickTimers.grantsInOrder := by
    obtain ⟨hgrants, hentries⟩ := State.grantsInOrder_iff.mp h
    refine State.grantsInOrder_iff.mpr ⟨fun k g hk => ?_, fun i => ?_⟩
    · obtain ⟨g', hk', rfl⟩ := (s.slots_tickTimers k g).mp hk
      obtain ⟨⟨h1, h2, h3, h4⟩, hentry⟩ := hgrants k g' hk'
      exact ⟨⟨h1, h2, h3, h4⟩, fun i hi => ⟨(hentry i hi).state, (hentry i hi).window⟩⟩
    · rw [State.hasGrant_tickTimers]
      exact hentries i
  unfold State.tick
  split
  · exact h
  · exact htimers

/-- Every command but a cold start keeps the grants in order, and moves a generation only as CHECK-WRITE issues a grant. -/
theorem exec_grantsStep (c : Instr) (h : exec c s = .next t) (hc : ∀ a b, c ≠ .coldStart a b) :
    State.GrantsStep (∃ p, c = .checkWrite p) s t := by
  have kept {may : Prop} {f : State → State} (ht : (f s).table = s.table) (hg : (f s).grants = s.grants) :
      State.GrantsStep may s (s.event f) :=
    .of_eq (s.event_table ht) (s.event_grants hg)
  have reported {may : Prop} {serve : List Byte → State → Served} (h : ∀ p (b : State), (serve p b).1 = b)
      (c : Instr) (code : Byte) (p : List Byte) : State.GrantsStep may s (s.request c code p serve) :=
    .request (fun p b => by rw [h p b]; exact .refl b) c code p
  have acting {may : Prop} {serve : List Byte → State → Served} (ht : ∀ p (b : State), (serve p b).1.table = b.table)
      (hg : ∀ p (b : State), (serve p b).1.grants = b.grants) (c : Instr) (code : Byte) (p : List Byte) :
      State.GrantsStep may s (s.request c code p serve) :=
    .request (fun p b => .of_eq (ht p b) (hg p b)) c code p
  cases c <;> cases h
  case readStatus =>
    exact acting (fun p b => serveReadStatus_table b p) (fun p b => serveReadStatus_grants b p) _ _ _
  case clearAttention =>
    exact acting (fun p b => serveClearAttention_table b p) (fun p b => serveClearAttention_grants b p) _ _ _
  case restart => exact .request grantsStep_serveRestart _ _ _
  case readParam => exact reported (fun p b => serveReadParam_state b p) _ _ _
  case setParam => exact .request grantsStep_serveSetParam _ _ _
  case readClock => exact reported (fun p b => serveReadClock_state b p) _ _ _
  case setClock => exact acting (fun p b => serveSetClock_table b p) (fun p b => serveSetClock_grants b p) _ _ _
  case openSurvey => exact .request grantsStep_serveOpenSurvey _ _ _
  case addWindow => exact .request grantsStep_serveAddWindow _ _ _
  case dropWindow => exact .request grantsStep_serveDropWindow _ _ _
  case findSurvey => exact reported (fun p b => serveFindSurvey_state b p) _ _ _
  case findBlock => exact reported (fun p b => serveFindBlock_state b p) _ _ _
  case readEntry => exact reported (fun p b => serveReadEntry_state b p) _ _ _
  case nextEntry => exact reported (fun p b => serveNextEntry_state b p) _ _ _
  case rename => exact .request grantsStep_serveRename _ _ _
  -- SEAL, whose name is a keyword of Lean, is the next command in order
  next => exact .request grantsStep_serveSeal _ _ _
  case verified => exact .request grantsStep_serveVerified _ _ _
  case reopen => exact .request grantsStep_serveReopen _ _ _
  case setHold => exact .request grantsStep_serveSetHold _ _ _
  case retire => exact .request grantsStep_serveRetire _ _ _
  case restore => exact .request grantsStep_serveRestore _ _ _
  case checkWrite p => exact .request (grantsStep_serveCheckWrite ⟨p, rfl⟩) _ _ _
  case writeDone => exact .request grantsStep_serveWriteDone _ _ _
  case readGrants => exact reported (fun p b => serveReadGrants_state b p) _ _ _
  case readGuard => exact reported (fun p b => serveReadGuard_state b p) _ _ _
  case setTarget => exact acting (fun p b => serveSetTarget_table b p) (fun p b => serveSetTarget_grants b p) _ _ _
  case readMechanism => exact reported (fun p b => serveReadMechanism_state b p) _ _ _
  case readGauge => exact reported (fun p b => serveReadGauge_state b p) _ _ _
  case setCharge => exact acting (fun p b => serveSetCharge_table b p) (fun p b => serveSetCharge_grants b p) _ _ _
  case malformed => exact grantsStep_refusedWrite s _ _ _ _
  case unknown => exact grantsStep_refusedWrite s _ _ _ _
  case emptyWrite => exact .transfer fun b => .of_eq rfl rfl
  case addressMatch address dir =>
    split
    · exact .of_eq rfl rfl
    · exact .of_eq (s.onBus_table (s.addressByte_table address dir) _)
        (s.onBus_grants (s.addressByte_grants address dir) _)
  case answerFormed => exact kept s.answerFormed_table s.answerFormed_grants
  case answerRead => exact .transfer fun b => .of_eq rfl rfl
  case linkClear => exact .of_eq (State.event_table (s.setLclr false) rfl) (State.event_grants (s.setLclr false) rfl)
  case linkClearRelease => exact .of_eq rfl rfl
  case sampleTimerExpiry => exact kept s.sampleExpiry_table s.sampleExpiry_grants
  case setupComplete => exact kept (s.setupEnds_table _) (s.setupEnds_grants _)
  case readComplete => exact .event (.of_joltedTo (s.joltedTo_readEnds _) (s.readEnds_grants _))
  case settleTimerExpiry => exact kept s.settleExpiry_table s.settleExpiry_grants
  case grantDeadlineExpiry slot => exact .event (grantsStep_expireGrant s slot)
  case supplySettleExpiry =>
    exact kept (s.phaseExpiry_table s.supplySettles_table _) (s.phaseExpiry_grants s.supplySettles_grants _)
  case spinTimeoutExpiry =>
    exact kept (s.phaseExpiry_table s.spinTimesOut_table _) (s.phaseExpiry_grants s.spinTimesOut_grants _)
  case unloadTimeExpiry => exact kept (s.phaseExpiry_table s.unloads_table _) (s.phaseExpiry_grants s.unloads_grants _)
  case spinDownExpiry =>
    exact kept (s.phaseExpiry_table s.enterCycleWait_table _) (s.phaseExpiry_grants s.enterCycleWait_grants _)
  case cycleDelayExpiry =>
    exact kept (s.phaseExpiry_table s.offReached_table _) (s.phaseExpiry_grants s.offReached_grants _)
  case drdyAsserted =>
    exact .of_eq ((s.setDrdy true).event_table (s.setDrdy true).drdyRises_table)
      ((s.setDrdy true).event_grants (s.setDrdy true).drdyRises_grants)
  case drdyReleased =>
    exact .of_eq ((s.setDrdy false).event_table (s.setDrdy false).drdyFalls_table)
      ((s.setDrdy false).event_grants (s.setDrdy false).drdyFalls_grants)
  case periodEnd code volts => exact kept (s.periodEnds_table code volts) (s.periodEnds_grants code volts)
  case sprsChange present => exact kept (s.sprsChanges_table present) (s.sprsChanges_grants present)
  case dozeTimerExpiry => exact kept s.dozeExpiry_table s.dozeExpiry_grants
  case enterRetain => split <;> exact .of_eq rfl rfl
  case retainedContentsLoss => split <;> exact .of_eq rfl rfl
  case coldStart sprs adsel => exact absurd rfl (hc sprs adsel)
  case warmStart sprs adsel =>
    split
    · exact .of_inOrder (by simp [GrantTable.emptied])
        (State.grantsInOrder_start (s.warmStart_table sprs adsel) (s.warmStart_grants sprs adsel))
    · exact .refl s
  case secondStep => split <;> exact .of_eq rfl rfl
  case wakingTransferEnd =>
    exact .of_eq (s.onBus_table s.wakingEnds_table _) (s.onBus_grants s.wakingEnds_grants _)

/-- A cold start leaves the grants of `State.cold`. -/
theorem exec_coldStart (s : State) (sprs adsel : Bool) : exec (.coldStart sprs adsel) s = .next
    (if s.supply.mode = .retain ∧ s.supply.storeValid = false
      then State.cold sprs adsel s.pins s.freeCount s.pending else s) := by
  rw [← State.coldStart_eq]
  rfl

/-- Settles O55: a tick moves the deadlines alone, a cold start leaves no grant, and every other command keeps the grants in
order (`exec_grantsStep`). -/
theorem grantsStayInOrder : Obligations.GrantsStayInOrder := by
  intro s t hs h
  unfold step at h
  split at h
  · cases h
    exact State.grantsInOrder_tick hs
  next c rest _ =>
    by_cases hc : ∃ a b, c = .coldStart a b
    · obtain ⟨sprs, adsel, rfl⟩ := hc
      rw [exec_coldStart] at h
      cases h
      split
      · exact State.grantsInOrder_cold ..
      · exact hs
    · exact (exec_grantsStep c h fun a b e => hc ⟨a, b, e⟩).inOrder hs

/-- Settles O35: of the commands but a cold start, only CHECK-WRITE moves a generation, where it issues a grant
(`exec_grantsStep`). -/
theorem generationsCountGrants : Obligations.GenerationsCountGrants := by
  intro c s t k h hne
  by_cases hc : ∃ a b, c = .coldStart a b
  · obtain ⟨sprs, adsel, rfl⟩ := hc
    refine .inl ⟨sprs, adsel, rfl, ?_⟩
    rw [exec_coldStart] at h
    cases h
    split at hne
    · rw [if_pos (by assumption)]
      simp [State.cold]
    · exact absurd rfl hne
  · obtain hk | ⟨hwrite, hissued⟩ := (exec_grantsStep c h fun a b e => hc ⟨a, b, e⟩).generation k
    · exact absurd hk hne
    · exact .inr ⟨hwrite, hissued.generation, hissued.free, hissued.grant⟩

end Sys2Proof.Machine

/-! DOZE and the doze timer: what the operations leave of the supply and of the sequencer's timing (`State.SupplyStep`,
`State.LeavesSupply`), what an event must leave for DOZE to stay in order (`State.DozeStep`), and what every command does to
it (`exec_keepsDoze`). -/

namespace Sys2Proof.Machine

variable {s t u : State}

/-! ## The sequencer's timing parameters (R119) -/

/-- The timing parameters of the sequencer. -/
def Sequencer.timing (q : Sequencer) : Nat × Nat × Nat × Nat × Nat :=
  (q.supplySettle, q.spinTimeout, q.unloadTime, q.spinDown, q.cycleDelay)

theorem Sequencer.cycleDelay_of_timing {q r : Sequencer} (h : r.timing = q.timing) : r.cycleDelay = q.cycleDelay :=
  congrArg (fun v => v.2.2.2.2) h

@[simp] theorem Sequencer.toPowering_timing (q : Sequencer) : q.toPowering.timing = q.timing := rfl
@[simp] theorem Sequencer.toSpinning_timing (q : Sequencer) : q.toSpinning.timing = q.timing := rfl
@[simp] theorem Sequencer.toReady_timing (q : Sequencer) : q.toReady.timing = q.timing := rfl
@[simp] theorem Sequencer.toDraining_timing (q : Sequencer) (c : StopCause) : (q.toDraining c).timing = q.timing := rfl
@[simp] theorem Sequencer.toUnloading_timing (q : Sequencer) (c : StopCause) : (q.toUnloading c).timing = q.timing := rfl
@[simp] theorem Sequencer.spinsDown_timing (q : Sequencer) : q.spinsDown.timing = q.timing := rfl
@[simp] theorem Sequencer.toStopping_timing (q : Sequencer) (c : StopCause) : (q.toStopping c).timing = q.timing := rfl
@[simp] theorem Sequencer.toCycleWait_timing (q : Sequencer) : q.toCycleWait.timing = q.timing := rfl
@[simp] theorem Sequencer.toOff_timing (q : Sequencer) : q.toOff.timing = q.timing := rfl
@[simp] theorem Sequencer.latch_timing (q : Sequencer) (f : FaultLatch) (c : StopCause) :
    (q.latch f c).timing = q.timing := rfl

section
variable (s : State)

@[simp] theorem State.powerUpCheck_timing : s.powerUpCheck.seq.timing = s.seq.timing := by
  simp only [State.powerUpCheck]; split <;> simp
@[simp] theorem State.wayDown_timing : s.wayDown.seq.timing = s.seq.timing := by
  simp only [State.wayDown]; split <;> simp
@[simp] theorem State.readyReached_timing : s.readyReached.seq.timing = s.seq.timing := by
  simp only [State.readyReached]; split <;> simp
@[simp] theorem State.offReached_timing : s.offReached.seq.timing = s.seq.timing := by
  simp [State.offReached]
@[simp] theorem State.enterCycleWait_timing : s.enterCycleWait.seq.timing = s.seq.timing := by
  simp only [State.enterCycleWait]; split <;> simp
@[simp] theorem State.emergencyUnload_timing : s.emergencyUnload.seq.timing = s.seq.timing := by
  simp only [State.emergencyUnload]; split <;> simp
@[simp] theorem State.emptySignal_timing : s.emptySignal.seq.timing = s.seq.timing := by
  simp only [State.emptySignal]; split <;> simp
@[simp] theorem State.guardEnters_timing (g : GuardState) : (s.guardEnters g).seq.timing = s.seq.timing := by
  simp only [State.guardEnters]; split <;> simp
@[simp] theorem State.handCritical_timing (was : Bool) : (s.handCritical was).seq.timing = s.seq.timing := by
  simp only [State.handCritical]; (repeat' split) <;> simp
@[simp] theorem State.evaluate_timing (was empty : Bool) : (s.evaluate was empty).seq.timing = s.seq.timing := by
  simp only [State.evaluate]; split <;> simp
@[simp] theorem State.openChanged_timing : s.openChanged.seq.timing = s.seq.timing := by
  simp [State.openChanged]
@[simp] theorem State.sealEntry_timing (i : Fin 64) : (s.sealEntry i).seq.timing = s.seq.timing := by
  simp only [State.sealEntry]; split <;> simp
@[simp] theorem State.settleEntry_timing (i : Fin 64) : (s.settleEntry i).seq.timing = s.seq.timing := by
  simp only [State.settleEntry]; (repeat' split) <;> simp
@[simp] theorem State.removeGrant_timing (k : Fin 8) (g : Grant) (f : Entry → Entry) :
    (s.removeGrant k g f).seq.timing = s.seq.timing := by
  simp only [State.removeGrant]; split <;> simp

end

/-! ## What an operation leaves of the supply -/

/-- The power mode stands or is RUN, and the doze timer and the start kind stand. -/
structure State.SupplyStep (s t : State) : Prop where
  mode : t.supply.mode = s.supply.mode ∨ t.supply.mode = .run
  timer : t.supply.dozeTimer = s.supply.dozeTimer
  startKind : t.supply.startKind = s.supply.startKind

theorem State.SupplyStep.of_eq (h : t.supply = s.supply) : s.SupplyStep t := by
  constructor <;> simp [h]

theorem State.SupplyStep.refl (s : State) : s.SupplyStep s := .of_eq rfl

theorem State.SupplyStep.trans (h : s.SupplyStep t) (h' : t.SupplyStep u) : s.SupplyStep u where
  mode := by rcases h'.mode with h1 | h1 <;> simp [h1, h.mode]
  timer := h'.timer.trans h.timer
  startKind := h'.startKind.trans h.startKind

theorem State.SupplyStep.congr_right (h : s.SupplyStep t) (hu : u.supply = t.supply) : s.SupplyStep u :=
  h.trans (.of_eq hu)

theorem State.SupplyStep.congr_left (h : t.SupplyStep u) (ht : t.supply = s.supply) : s.SupplyStep u :=
  .trans (.of_eq ht) h

theorem State.supplyStep_leaveDoze (s : State) : s.SupplyStep s.leaveDoze := ⟨.inr rfl, rfl, rfl⟩

theorem State.supplyStep_wakeForPowerUp (s : State) : s.SupplyStep s.wakeForPowerUp := by
  unfold State.wakeForPowerUp
  split
  · exact s.supplyStep_leaveDoze
  · exact .refl s

theorem State.supplyStep_handCritical (s : State) (was : Bool) : s.SupplyStep (s.handCritical was) := by
  unfold State.handCritical
  split
  · split <;> exact .of_eq (by simp)
  · split
    · split
      · split <;> exact .of_eq (by simp)
      · exact s.supplyStep_wakeForPowerUp.congr_right (by simp)
      all_goals exact .refl s
    · exact .refl s

theorem State.supplyStep_evaluate (s : State) (was empty : Bool) : s.SupplyStep (s.evaluate was empty) := by
  rw [State.evaluate_eq_handCritical]
  exact State.SupplyStep.trans (t := s.judged empty) ⟨.inl rfl, rfl, rfl⟩ (State.supplyStep_handCritical _ was)

theorem State.supplyStep_openChanged (s : State) : s.SupplyStep s.openChanged := s.supplyStep_evaluate _ _

theorem State.supplyStep_sealEntry (s : State) (i : Fin 64) : s.SupplyStep (s.sealEntry i) := by
  simp only [State.sealEntry]
  refine .congr_left (.congr_right (State.supplyStep_openChanged (s.modifyEntry i fun e =>
    { e with state := .sealed, sealed := some s.clock.driveClock })) ?_) rfl
  split <;> simp

theorem State.supplyStep_settleEntry (s : State) (i : Fin 64) : s.SupplyStep (s.settleEntry i) := by
  simp only [State.settleEntry]
  split
  · exact .refl s
  · split
    · exact .of_eq (by simp)
    · split
      · exact .refl s
      · exact s.supplyStep_sealEntry i
    all_goals exact .refl s

theorem State.supplyStep_removeGrant (s : State) (k : Fin 8) (g : Grant) (f : Entry → Entry) :
    s.SupplyStep (s.removeGrant k g f) := by
  simp only [State.removeGrant]
  split
  next i _ =>
    exact .congr_left (.congr_right (State.supplyStep_settleEntry ((s.setGrant k none).modifyEntry i f) i) (by simp)) rfl
  next => exact .of_eq (by simp)

/-! ## The events that leave the supply and the timing parameters -/

/-- The supply and the sequencer's timing parameters stand. -/
structure State.LeavesSupply (s t : State) : Prop where
  supply : t.supply = s.supply
  timing : t.seq.timing = s.seq.timing

theorem State.LeavesSupply.refl (s : State) : s.LeavesSupply s := ⟨rfl, rfl⟩

theorem State.LeavesSupply.trans (h : s.LeavesSupply t) (h' : t.LeavesSupply u) : s.LeavesSupply u :=
  ⟨h'.supply.trans h.supply, h'.timing.trans h.timing⟩

/-- After an update of the guard, which leaves both. -/
theorem State.LeavesSupply.after_onGuard {f : Guard → Guard} (h : (s.onGuard f).LeavesSupply u) : s.LeavesSupply u :=
  ⟨h.supply, h.timing⟩

section
variable (s : State)

theorem State.leavesSupply_answerFormed : s.LeavesSupply s.answerFormed := by
  unfold State.answerFormed; split <;> exact ⟨rfl, rfl⟩
theorem State.leavesSupply_missSample : s.LeavesSupply s.missSample := by
  unfold State.missSample State.enterBlind; (repeat' split) <;> constructor <;> simp
theorem State.leavesSupply_transferFailed : s.LeavesSupply s.transferFailed :=
  (State.leavesSupply_missSample _).after_onGuard
theorem State.leavesSupply_sampleExpiry : s.LeavesSupply s.sampleExpiry := by
  simp only [State.sampleExpiry]
  split
  · exact .refl s
  · split
    · exact (State.leavesSupply_missSample _).after_onGuard
    · exact (State.leavesSupply_missSample _).after_onGuard
    · exact ⟨rfl, rfl⟩
theorem State.leavesSupply_setupEnds (good : Bool) : s.LeavesSupply (s.setupEnds good) := by
  unfold State.setupEnds
  split
  · exact .refl s
  · split
    · exact ⟨rfl, rfl⟩
    · exact s.leavesSupply_transferFailed

theorem State.leavesSupply_knock (m2 : Nat) : s.LeavesSupply (s.knock m2) := by
  constructor <;> simp [State.knock]
theorem State.leavesSupply_enterFalling (m2 : Nat) : s.LeavesSupply (s.enterFalling m2) := by
  constructor <;> simp [State.enterFalling]
theorem State.leavesSupply_lowSample (m2 : Nat) (next : GuardState) : s.LeavesSupply (s.lowSample m2 next) := by
  unfold State.lowSample
  split
  · exact s.leavesSupply_enterFalling m2
  · constructor <;> simp [State.setRun]
theorem State.leavesSupply_sampleInCalm (m2 : Nat) (c : SampleClass) : s.LeavesSupply (s.sampleInCalm m2 c) := by
  cases c
  case low => exact (State.leavesSupply_lowSample _ m2 .watch).after_onGuard
  case normal => exact .refl s
  case impact => exact s.leavesSupply_knock m2
theorem State.leavesSupply_sampleInWatch (m2 : Nat) (c : SampleClass) : s.LeavesSupply (s.sampleInWatch m2 c) := by
  cases c
  case low => exact s.leavesSupply_lowSample m2 .watch
  case normal => constructor <;> simp [State.sampleInWatch, State.setRun]
  case impact => exact s.leavesSupply_knock m2
theorem State.leavesSupply_sampleInFalling (c : SampleClass) : s.LeavesSupply (s.sampleInFalling c) := by
  cases c <;> simp only [State.sampleInFalling, State.setRun, State.landed] <;> (repeat' split) <;> constructor <;> simp
theorem State.leavesSupply_sampleInSettle (m2 : Nat) (c : SampleClass) : s.LeavesSupply (s.sampleInSettle m2 c) := by
  cases c
  case low => exact s.leavesSupply_lowSample m2 .settle
  case normal => exact ⟨rfl, rfl⟩
  case impact => exact ⟨rfl, rfl⟩
theorem State.leavesSupply_takeSample (m2 : Nat) (c : SampleClass) : s.LeavesSupply (s.takeSample m2 c) := by
  have hblind : s.LeavesSupply s.leaveBlind := by unfold State.leaveBlind; split <;> constructor <;> simp
  refine hblind.trans ?_
  simp only [State.takeSample]
  split
  · exact State.leavesSupply_sampleInCalm _ m2 c
  · exact State.leavesSupply_sampleInWatch _ m2 c
  · exact State.leavesSupply_sampleInFalling _ c
  · exact State.leavesSupply_sampleInSettle _ m2 c
  · exact .refl _
theorem State.leavesSupply_readEnds (sample : Option Sample) : s.LeavesSupply (s.readEnds sample) := by
  unfold State.readEnds
  split
  · exact .refl s
  · split
    · exact s.leavesSupply_transferFailed
    · exact (State.leavesSupply_takeSample _ _ _).after_onGuard
theorem State.leavesSupply_settleExpiry : s.LeavesSupply s.settleExpiry := by
  unfold State.settleExpiry; split <;> constructor <;> simp

theorem State.leavesSupply_supplySettles : s.LeavesSupply s.supplySettles := by
  simp only [State.supplySettles]; split <;> constructor <;> simp
theorem State.leavesSupply_spinTimesOut : s.LeavesSupply s.spinTimesOut := by
  constructor <;> simp [State.spinTimesOut]
theorem State.leavesSupply_unloads : s.LeavesSupply s.unloads := ⟨rfl, rfl⟩
theorem State.leavesSupply_enterCycleWait : s.LeavesSupply s.enterCycleWait := ⟨by simp, by simp⟩
theorem State.leavesSupply_offReached : s.LeavesSupply s.offReached := ⟨by simp, by simp⟩
theorem State.leavesSupply_drdyRises : s.LeavesSupply s.drdyRises := by
  unfold State.drdyRises; split <;> constructor <;> simp
theorem State.leavesSupply_drdyFalls : s.LeavesSupply s.drdyFalls := by
  unfold State.drdyFalls; split <;> constructor <;> simp

end

/-! ## DOZE -/

/-- R98, R122, R154, R157: what DOZE finds the part in, and keeps it in. -/
structure State.Asleep (s : State) : Prop where
  present : s.supply.present = false
  seq : s.seq.state = .off
  grants : s.grantsEmpty = true
  guard : s.guard.state = .calm
  sampleTimer : s.guard.sampleTimer = none
  transfer : s.guard.transfer = .none
  link : s.link.state = .idle

theorem State.dozeInOrder_iff : s.dozeInOrder ↔
    (s.supply.mode = .doze → s.Asleep) ∧ (s.supply.dozeTimer.isSome = true → s.dozeCondition = true) ∧
      (s.dozeCondition = true → s.supply.dozeTimer = none → s.supply.startKind = .warm ∧ s.seq.cycleDelay = 0) := by
  refine and_congr_left fun _ => forall_congr' fun _ => ⟨?_, ?_⟩
  · rintro ⟨h1, h2, h3, h4, h5, h6, h7⟩
    exact ⟨h1, h2, h3, h4, h5, h6, h7⟩
  · rintro ⟨h1, h2, h3, h4, h5, h6, h7⟩
    exact ⟨h1, h2, h3, h4, h5, h6, h7⟩

theorem State.dozeCondition_iff : s.dozeCondition = true ↔ s.supply.mode = .run ∧ s.supply.present = false ∧
    s.seq.state = .off ∧ s.grantsEmpty = true ∧ s.guard.state = .calm ∧ s.link.state = .idle := by
  simp [State.dozeCondition, Link.isIdle, and_assoc]

theorem State.dozeCondition_of_not_run (h : s.supply.mode ≠ .run) : s.dozeCondition = false := by
  simp [State.dozeCondition, h]

theorem State.dozeTimer_eq_none (hs : s.dozeInOrder) (h : s.dozeCondition = false) : s.supply.dozeTimer = none := by
  obtain ⟨-, htimer, -⟩ := State.dozeInOrder_iff.mp hs
  rw [← Option.not_isSome_iff_eq_none]
  intro hsome
  exact Bool.false_ne_true (h.symm.trans (htimer hsome))

/-- Outside DOZE, with the doze timer stopped. -/
theorem State.dozeInOrder_of_stopped (hm : s.supply.mode ≠ .doze) (ht : s.supply.dozeTimer = none)
    (hc : s.dozeCondition = true → s.supply.startKind = .warm ∧ s.seq.cycleDelay = 0) : s.dozeInOrder :=
  State.dozeInOrder_iff.mpr ⟨fun h => absurd h hm, by simp [ht], fun h _ => hc h⟩

theorem State.dozeInOrder_congr (hsupply : t.supply = s.supply) (hseq : t.seq = s.seq) (hgrants : t.grants = s.grants)
    (hguard : t.guard = s.guard) (hlink : t.link.state = s.link.state) (hs : s.dozeInOrder) : t.dozeInOrder := by
  have hempty : t.grantsEmpty = s.grantsEmpty := by simp only [State.grantsEmpty, hgrants]
  have hcond : t.dozeCondition = s.dozeCondition := by
    simp only [State.dozeCondition, Link.isIdle, hsupply, hseq, hempty, hguard, hlink]
  unfold State.dozeInOrder at *
  rwa [hsupply, hseq, hempty, hguard, hlink, hcond]

/-! ## The doze timer follows the doze condition (R156) -/

theorem State.supply_dozeFollows (s : State) (held : Bool) : (s.dozeFollows held).supply = { s.supply with
    dozeTimer := if s.dozeCondition = held then s.supply.dozeTimer
      else if s.dozeCondition then some (s.supply.dozeDelay * 1000) else none } := by
  unfold State.dozeFollows
  cases s.dozeCondition <;> cases held <;> rfl

theorem State.Asleep.dozeFollows (h : s.Asleep) (held : Bool) : (s.dozeFollows held).Asleep := by
  obtain ⟨h1, h2, h3, h4, h5, h6, h7⟩ := h
  refine ⟨?_, ?_, ?_, ?_, ?_, ?_, ?_⟩
  · rwa [State.supply_dozeFollows]
  · rwa [State.dozeFollows_seq]
  · rwa [State.grantsEmpty, State.dozeFollows_grants]
  · rwa [State.dozeFollows_guard]
  · rwa [State.dozeFollows_guard]
  · rwa [State.dozeFollows_guard]
  · rwa [State.dozeFollows_link]

/-- In RUN with the doze timer stopped and the doze condition known to have failed, it starts where the condition holds now. -/
theorem State.dozeInOrder_dozeFollows_of_run (hm : s.supply.mode = .run) (ht : s.supply.dozeTimer = none) :
    (s.dozeFollows false).dozeInOrder := by
  refine State.dozeInOrder_iff.mpr ⟨fun h => ?_, ?_, ?_⟩
  · rw [State.supply_dozeFollows] at h
    cases hm.symm.trans h
  all_goals
    rw [State.dozeFollows_dozeCondition, State.supply_dozeFollows]
    cases s.dozeCondition <;> simp [ht]

/-- What an event must leave for DOZE to stay in order: the supply but for its mode, which it does not make DOZE, the cycle
delay, and, where the part stays in DOZE, what DOZE keeps it in. -/
structure State.DozeStep (s t : State) : Prop extends State.SupplyStep s t where
  cycleDelay : t.seq.cycleDelay = s.seq.cycleDelay
  asleep : s.Asleep → s.supply.mode = .doze → t.supply.mode = .doze → t.Asleep

theorem State.DozeStep.refl (s : State) : s.DozeStep s := ⟨.refl s, rfl, fun h _ _ => h⟩

/-- An event with nothing to do in DOZE. -/
theorem State.DozeStep.of_idle (h : s.SupplyStep t) (ht : t.seq.timing = s.seq.timing) (hid : s.Asleep → t = s) :
    s.DozeStep t :=
  ⟨h, Sequencer.cycleDelay_of_timing ht, fun ha _ _ => (hid ha).symm ▸ ha⟩

theorem State.DozeStep.of_leavesSupply (h : s.LeavesSupply t) (hid : s.Asleep → t = s) : s.DozeStep t :=
  .of_idle (.of_eq h.supply) h.timing hid

theorem State.DozeStep.dozeInOrder_event {f : State → State} (h : s.DozeStep (f s)) (hs : s.dozeInOrder) :
    (s.event f).dozeInOrder := by
  unfold State.event
  split
  · exact hs
  · obtain ⟨hasleep, htimer, hstopped⟩ := State.dozeInOrder_iff.mp hs
    refine State.dozeInOrder_iff.mpr ⟨fun hd => ?_, ?_, ?_⟩
    · have hd' : (f s).supply.mode = .doze := by rwa [State.supply_dozeFollows] at hd
      have hm : s.supply.mode = .doze := by
        rcases h.mode with h1 | h1
        · exact h1.symm.trans hd'
        · cases h1.symm.trans hd'
      exact (h.asleep (hasleep hm) hm hd').dozeFollows _
    · rw [State.dozeFollows_dozeCondition, State.supply_dozeFollows]
      rcases Bool.eq_false_or_eq_true (f s).dozeCondition with hc | hc
      · exact fun _ => hc
      · rcases Bool.eq_false_or_eq_true s.dozeCondition with hc' | hc'
        · simp [hc, hc']
        · simp [hc, hc', h.timer, State.dozeTimer_eq_none hs hc']
    · rw [State.dozeFollows_dozeCondition, State.supply_dozeFollows, State.dozeFollows_seq, h.cycleDelay]
      intro hc ht
      rcases Bool.eq_false_or_eq_true s.dozeCondition with hc' | hc'
      · rw [hc, hc', if_pos rfl, h.timer] at ht
        rw [h.startKind]
        exact hstopped hc' ht
      · simp [hc, hc'] at ht

/-! ## The events in DOZE -/

section
variable (ha : s.Asleep)
include ha

theorem State.Asleep.answerFormed : s.answerFormed = s := by
  simp [State.answerFormed, Link.formingEnds, ha.link]
theorem State.Asleep.sampleExpiry : s.sampleExpiry = s := by
  simp [State.sampleExpiry, timerEnded, ha.sampleTimer]
theorem State.Asleep.setupEnds (good : Bool) : s.setupEnds good = s := by
  simp [State.setupEnds, ha.transfer]
theorem State.Asleep.readEnds (sample : Option Sample) : s.readEnds sample = s := by
  simp [State.readEnds, ha.transfer]
theorem State.Asleep.settleExpiry : s.settleExpiry = s := by
  simp [State.settleExpiry, ha.guard]
theorem State.Asleep.expireGrant (k : Fin 8) : s.expireGrant k = s := by
  simp [State.expireGrant, State.grantsEmpty_iff.mp ha.grants k]
theorem State.Asleep.phaseExpiry {q : SeqState} (hq : q ≠ .off) (f : State → State) : s.phaseExpiry q f = s := by
  simp [State.phaseExpiry, ha.seq, hq.symm]
theorem State.Asleep.drdyRises : s.drdyRises = s := by
  simp [State.drdyRises, ha.seq]
theorem State.Asleep.drdyFalls : s.drdyFalls = s := by
  simp [State.drdyFalls, ha.seq]

/-- Critical-on-battery ceasing wakes the part, or finds the target OFF and changes nothing (R106, R157). -/
theorem State.Asleep.handCritical {was : Bool} (hd : (s.handCritical was).supply.mode = .doze) :
    s.handCritical was = s := by
  cases hw : was <;> cases hc : s.critical
  · exact State.handCritical_of_eq hc
  · exact State.handCritical_arising_other hc (by simp [ha.seq]) (by simp [ha.seq]) (by simp [ha.seq])
  · rw [hw, State.handCritical_ceasing_off hc ha.seq, State.powerUpCheck_supply] at hd
    rw [State.handCritical_ceasing_off hc ha.seq]
    unfold State.wakeForPowerUp at hd ⊢
    split at hd
    · cases hd
    next hstay =>
      rw [if_neg hstay]
      refine State.powerUpCheck_of_not ?_
      rintro ⟨-, hp⟩
      exact hstay ⟨hd, (State.precondition_iff.mp hp).1⟩
  · exact State.handCritical_of_eq hc

end

theorem State.dozeStep_phaseExpiry {q : SeqState} (hq : q ≠ .off) {f : State → State} (h : s.LeavesSupply (f s)) :
    s.DozeStep (s.phaseExpiry q f) := by
  refine .of_leavesSupply ?_ fun ha => ha.phaseExpiry hq f
  unfold State.phaseExpiry
  split
  · exact h
  · exact .refl s

theorem State.dozeStep_expireGrant (s : State) (k : Fin 8) : s.DozeStep (s.expireGrant k) := by
  refine .of_idle ?_ ?_ fun ha => ha.expireGrant k
  · unfold State.expireGrant
    split
    · exact .refl s
    · split
      · exact .trans (.of_eq (State.raise_supply s .expired)) (State.supplyStep_removeGrant _ _ _ _)
      · exact .refl s
  · unfold State.expireGrant
    (repeat' split) <;> simp

/-- An evaluation leaves DOZE or leaves what it keeps. -/
theorem State.dozeStep_evaluate (s : State) (was empty : Bool) : s.DozeStep (s.evaluate was empty) := by
  refine ⟨s.supplyStep_evaluate was empty, Sequencer.cycleDelay_of_timing (by simp), fun ha _ hd => ?_⟩
  have hjudged : (s.judged empty).Asleep := { ha with }
  rw [State.evaluate_eq_handCritical] at hd ⊢
  rw [hjudged.handCritical hd]
  exact hjudged

theorem State.dozeStep_periodEnds (s : State) (code volts : BitVec 16) : s.DozeStep (s.periodEnds code volts) := by
  simp only [State.periodEnds]
  split
  · exact .refl s
  · obtain ⟨hsupply, hdelay, hasleep⟩ := State.dozeStep_evaluate
      (s.onGauge fun _ => (s.gauge.periodEnd code volts s.supply.present).1) s.critical
      (s.gauge.periodEnd code volts s.supply.present).2
    exact ⟨hsupply.congr_left rfl, hdelay, fun ha => hasleep { ha with }⟩

theorem State.dozeStep_sprsChanges (s : State) (present : Bool) : s.DozeStep (s.sprsChanges present) := by
  simp only [State.sprsChanges]
  split
  · exact .refl s
  next hne =>
    refine ⟨.trans ?_ (State.supplyStep_evaluate _ _ _), Sequencer.cycleDelay_of_timing ?_, fun ha hm hd => ?_⟩
    · split
      · exact ⟨.inr rfl, rfl, rfl⟩
      · exact ⟨.inl rfl, rfl, rfl⟩
    · split <;> simp
    · have hpresent : present = true := by
        cases present
        · exact absurd ha.present hne
        · rfl
      rw [if_pos ⟨hm, hpresent⟩] at hd
      rcases (State.supplyStep_evaluate (((s.leaveDoze.onSupply fun p => { p with present := present }).raise .supply))
        s.critical false).mode with h | h
      · cases h.symm.trans hd
      · cases h.symm.trans hd

/-- The end of a transfer, and of an ignored one, leaves an idle link idle. -/
theorem State.dozeStep_onLink {f : Link → Link} (h : s.link.state = .idle → (f s.link).state = .idle) :
    s.DozeStep (s.onLink f) :=
  ⟨.of_eq rfl, rfl, fun ha _ _ => { ha with link := h ha.link }⟩

theorem Link.endIgnored_idle {l : Link} (h : l.state = .idle) : l.endIgnored.state = .idle := by
  simp [Link.endIgnored, h]

theorem State.dozeStep_wakingEnds (s : State) : s.DozeStep s.wakingEnds := by
  unfold State.wakingEnds
  split
  · exact State.dozeStep_onLink Link.endIgnored_idle
  · exact .refl s

theorem Link.endTransfer_idle {l : Link} (h : l.state = .idle) : l.endTransfer.state = .idle := by
  simp [Link.endTransfer, h]

theorem State.dozeStep_addressByte (s : State) (address : BitVec 7) (dir : Dir) :
    s.DozeStep (s.addressByte address dir) := by
  simp only [State.addressByte]
  split
  · split
    next => exact ⟨⟨.inr rfl, rfl, rfl⟩, rfl, fun _ _ hd => by cases hd⟩
    next hm => exact ⟨.of_eq rfl, rfl, fun _ hd _ => absurd hd hm⟩
  · exact State.dozeStep_onLink (f := fun l => { l.endTransfer with
      acked := false, ignored := decide (address = l.endTransfer.address) }) Link.endTransfer_idle

theorem State.dozeInOrder_onBus {c : Instr} {f : State → State} (h : s.DozeStep (f s)) (hs : s.dozeInOrder) :
    (s.onBus c f).dozeInOrder := by
  unfold State.onBus
  split
  · exact State.DozeStep.dozeInOrder_event (State.dozeStep_onLink id) hs
  · exact h.dozeInOrder_event hs

/-! ## The transfers -/

/-- A transfer the port takes finds the part in RUN with the doze timer stopped; it may start it at its end. -/
theorem State.dozeInOrder_transfer {c : Instr} {dir : Dir} {lost start : Link → Link} {rest : State → State}
    (hlost : ∀ l : Link, l.state = .idle → (lost l).state = .idle) (hstart : ∀ l : Link, (start l).state ≠ .idle)
    (hrest : ∀ b : State, b.supply.mode = .run → b.supply.dozeTimer = none →
      (rest b).supply.mode = .run ∧ (rest b).supply.dozeTimer = none) (hs : s.dozeInOrder) :
    (s.transfer c dir lost start rest).dozeInOrder := by
  unfold State.transfer
  split
  · exact hs
  next hretain =>
    split
    · exact State.DozeStep.dozeInOrder_event (State.dozeStep_onLink (hlost _)) hs
    · split
      · exact hs
      · split
        next hdoze =>
          have hcond : s.dozeCondition = false := State.dozeCondition_of_not_run (by simp [hdoze])
          have htimer := State.dozeTimer_eq_none hs hcond
          exact State.dozeInOrder_dozeFollows_of_run rfl htimer
        next hdoze =>
          have hrun : s.supply.mode = .run := by
            cases h : s.supply.mode
            · rfl
            · exact absurd h hdoze
            · exact absurd h hretain
          split
          next =>
            refine State.dozeInOrder_congr (s := s) rfl rfl rfl rfl ?_ hs
            simp only [State.onLink_link, Link.defer_state, Link.stretch]
            split <;> rfl
          next =>
            have hbusy : (s.onLink start).dozeCondition = false := State.dozeCondition_busy _ (hstart s.link)
            have htimer : ((s.onLink start).dozeFollows s.dozeCondition).supply.dozeTimer = none := by
              rw [State.supply_dozeFollows, hbusy]
              rcases Bool.eq_false_or_eq_true s.dozeCondition with hc | hc
              · simp [hc]
              · simp [hc, State.dozeTimer_eq_none hs hc]
            obtain ⟨hm, ht⟩ := hrest ((s.onLink start).dozeFollows s.dozeCondition)
              (by rw [State.supply_dozeFollows]; exact hrun) htimer
            simp only [State.dozeFollows_dozeCondition, hbusy]
            exact State.dozeInOrder_dozeFollows_of_run hm ht

theorem Link.receive_not_idle (bytes : List Byte) (l : Link) : (l.receive bytes).state ≠ .idle := nofun

theorem Link.lostWrite_idle {l : Link} (h : l.state = .idle) : l.lostWrite.state = .idle := Link.endIgnored_idle h

/-- The owning block of a request keeps the part awake: in RUN with the doze timer stopped. -/
def State.StaysAwake (s t : State) : Prop :=
  s.supply.mode = .run → s.supply.dozeTimer = none → t.supply.mode = .run ∧ t.supply.dozeTimer = none

theorem State.SupplyStep.staysAwake (h : s.SupplyStep t) : s.StaysAwake t := by
  refine fun hm ht => ⟨?_, h.timer.trans ht⟩
  rcases h.mode with h1 | h1
  · exact h1.trans hm
  · exact h1

theorem State.dozeInOrder_request {serve : List Byte → State → Served}
    (h : ∀ p (b : State), b.StaysAwake (serve p b).1) (c : Instr) (code : Byte) (payload : List Byte)
    (hs : s.dozeInOrder) : (s.request c code payload serve).dozeInOrder := by
  unfold State.request
  refine State.dozeInOrder_transfer (fun _ => Link.lostWrite_idle) (Link.receive_not_idle _) (fun b hm ht => ?_) hs
  split
  · exact h _ b hm ht
  all_goals exact ⟨hm, ht⟩

theorem State.dozeInOrder_refusedWrite {c : Instr} {v : Verdict} {code : Code} {bytes : List Byte}
    (hs : s.dozeInOrder) : (s.refusedWrite c v code bytes).dozeInOrder := by
  unfold State.refusedWrite
  split
  · exact State.dozeInOrder_transfer (fun _ => Link.lostWrite_idle) (Link.receive_not_idle _)
      (fun _ hm ht => ⟨hm, ht⟩) hs
  · exact hs

/-! ## The requests -/

theorem State.SupplyStep.onSurvey {n : Nat} {act : Fin 64 → Served} (h : ∀ i, s.SupplyStep (act i).1) :
    s.SupplyStep (s.onSurvey n act).1 := by
  unfold State.onSurvey
  split
  · exact .refl s
  · split
    · exact .refl s
    next i _ => exact h i

section
variable (s : State) (p : List Byte)

theorem supplyStep_serveReadStatus : s.SupplyStep (serveReadStatus p s).1 := by
  unfold serveReadStatus; split <;> exact .of_eq rfl
theorem supplyStep_serveClearAttention : s.SupplyStep (serveClearAttention p s).1 := by
  unfold serveClearAttention; (repeat' split) <;> exact ⟨.inl rfl, rfl, rfl⟩
theorem supplyStep_serveSetClock : s.SupplyStep (serveSetClock p s).1 := by
  unfold serveSetClock; split <;> exact .of_eq rfl
theorem supplyStep_serveOpenSurvey : s.SupplyStep (serveOpenSurvey p s).1 := by
  unfold serveOpenSurvey
  (repeat' split) <;> try exact .refl s
  exact (State.supplyStep_openChanged _).congr_left (s.setEntry_supply _ _)
theorem supplyStep_serveAddWindow : s.SupplyStep (serveAddWindow p s).1 := by
  unfold serveAddWindow
  split
  · exact .refl s
  · split
    · exact .refl s
    · refine .onSurvey fun i => ?_
      split <;> exact .of_eq rfl
theorem supplyStep_serveDropWindow : s.SupplyStep (serveDropWindow p s).1 := by
  unfold serveDropWindow
  split
  · exact .refl s
  · refine .onSurvey fun i => ?_
    split <;> exact .of_eq rfl
theorem supplyStep_serveRename : s.SupplyStep (serveRename p s).1 := by
  unfold serveRename State.onSurvey; (repeat' split) <;> exact .of_eq rfl
theorem supplyStep_serveSetHold : s.SupplyStep (serveSetHold p s).1 := by
  unfold serveSetHold State.onSurvey; (repeat' split) <;> exact .of_eq rfl
theorem supplyStep_serveRestore : s.SupplyStep (serveRestore p s).1 := by
  unfold serveRestore; (repeat' split) <;> exact .of_eq rfl

theorem supplyStep_sealAt (i : Fin 64) (n : Nat) : s.SupplyStep (s.sealAt i n).1 := by
  unfold State.sealAt
  split
  · split
    · exact .of_eq rfl
    · exact s.supplyStep_sealEntry i
  all_goals exact .refl s
theorem supplyStep_verifiedAt (i : Fin 64) (n : Nat) : s.SupplyStep (s.verifiedAt i n).1 := by
  unfold State.verifiedAt
  split
  · split <;> exact .of_eq rfl
  · split
    · exact .refl s
    · exact (State.supplyStep_sealEntry (s.modifyEntry i Entry.unmark) i).congr_left rfl
  all_goals exact .refl s
theorem supplyStep_reopenAt (i : Fin 64) (n : Nat) : s.SupplyStep (s.reopenAt i n).1 := by
  unfold State.reopenAt; split <;> exact .of_eq rfl
theorem supplyStep_retireAt (i : Fin 64) (n : Nat) : s.SupplyStep (s.retireAt i n).1 := by
  have hwaits : s.SupplyStep (if s.named i = true then
      (s.modifyEntry i (Entry.withState .retiring)).openChanged.servedState i n
      else ((s.clearEntry i).openChanged, freedAnswer i n)).1 := by
    split
    · exact (State.supplyStep_openChanged (s.modifyEntry i (Entry.withState .retiring))).congr_left rfl
    · exact (State.supplyStep_openChanged (s.clearEntry i)).congr_left rfl
  unfold State.retireAt
  split
  · exact .refl s
  · split
    · exact .of_eq rfl
    · exact hwaits
    · exact hwaits
    all_goals exact .refl s

theorem supplyStep_serveSeal : s.SupplyStep (serveSeal p s).1 := by
  unfold serveSeal
  split
  · exact .refl s
  · exact .onSurvey fun i => supplyStep_sealAt s i _
theorem supplyStep_serveVerified : s.SupplyStep (serveVerified p s).1 := by
  unfold serveVerified
  split
  · exact .refl s
  · exact .onSurvey fun i => supplyStep_verifiedAt s i _
theorem supplyStep_serveReopen : s.SupplyStep (serveReopen p s).1 := by
  unfold serveReopen
  split
  · exact .refl s
  · exact .onSurvey fun i => supplyStep_reopenAt s i _
theorem supplyStep_serveRetire : s.SupplyStep (serveRetire p s).1 := by
  unfold serveRetire
  split
  · exact .refl s
  · exact .onSurvey fun i => supplyStep_retireAt s i _

theorem supplyStep_grantOrHold (slot : Option (Fin 64)) (window first count : Nat) :
    s.SupplyStep (s.grantOrHold slot window first count).1 := by
  unfold State.grantOrHold
  split
  · exact .refl s
  · exact .refl s
  · cases slot <;> exact .of_eq rfl
theorem supplyStep_serveCheckWrite : s.SupplyStep (serveCheckWrite p s).1 := by
  unfold serveCheckWrite State.checkRange State.checkCovered State.checkUncovered
  (repeat' split) <;> first | exact .refl s | exact supplyStep_grantOrHold s _ _ _ _
theorem supplyStep_serveWriteDone : s.SupplyStep (serveWriteDone p s).1 := by
  unfold serveWriteDone
  (repeat' split) <;> first | exact .refl s | exact s.supplyStep_removeGrant _ _ _

theorem supplyStep_serveSetTarget : s.SupplyStep (serveSetTarget p s).1 := by
  unfold serveSetTarget
  split
  · exact .refl s
  · refine .of_eq ?_
    simp only [State.setTarget, State.actOnTarget]
    (repeat' split) <;> simp
theorem supplyStep_serveSetCharge : s.SupplyStep (serveSetCharge p s).1 := by
  unfold serveSetCharge
  split
  · exact .refl s
  · exact (State.supplyStep_evaluate (s.onGauge (Gauge.setCharge _)) s.critical false).congr_left rfl

theorem supplyStep_setParam (q : Param) (v : Nat) : s.SupplyStep (s.setParam q v) := by
  cases q
  case capacity => exact .trans (t := s.onGauge (Gauge.setCapacity v)) (.of_eq rfl) (State.supplyStep_evaluate _ _ _)
  case rPark =>
    exact .trans (t := s.onSupply fun u => { u with rPark := v * 1000 }) ⟨.inl rfl, rfl, rfl⟩ (State.supplyStep_evaluate _ _ _)
  case rEntry =>
    exact .trans (t := s.onSupply fun u => { u with rEntry := v * 1000 }) ⟨.inl rfl, rfl, rfl⟩ (State.supplyStep_evaluate _ _ _)
  case hyst =>
    exact .trans (t := s.onSupply fun u => { u with hyst := v * 1000 }) ⟨.inl rfl, rfl, rfl⟩ (State.supplyStep_evaluate _ _ _)
  case dozeDelay => exact ⟨.inl rfl, rfl, rfl⟩
  case cycleDelay =>
    refine .of_eq ?_
    simp only [State.setParam, State.setCycleDelay]
    (repeat' split) <;> simp
  all_goals exact .of_eq (by simp [State.setParam])
theorem supplyStep_serveSetParam : s.SupplyStep (serveSetParam p s).1 := by
  unfold serveSetParam
  (repeat' split) <;> first | exact .refl s | exact supplyStep_setParam s _ _

/-- RESTART leaves the power mode as it is and the doze timer stopped (R162). -/
theorem staysAwake_serveRestart : s.StaysAwake (serveRestart p s).1 := by
  unfold serveRestart
  split
  · exact (State.SupplyStep.refl s).staysAwake
  · intro hm _
    rw [State.restart_supply]
    exact ⟨hm, rfl⟩

end

/-! ## The commands -/

theorem State.dozeInOrder_enterDoze {held : Bool} (h : s.dozeCondition = true) :
    (s.enterDoze.dozeFollows held).dozeInOrder := by
  obtain ⟨-, hpresent, hseq, hgrants, -, hlink⟩ := State.dozeCondition_iff.mp h
  have hasleep : s.enterDoze.Asleep := ⟨hpresent, hseq, hgrants, rfl, rfl, rfl, hlink⟩
  have hcond : s.enterDoze.dozeCondition = false := State.dozeCondition_of_not_run nofun
  have htimer : (s.enterDoze.dozeFollows held).supply.dozeTimer = none := by
    rw [State.supply_dozeFollows, hcond]
    cases held <;> rfl
  refine State.dozeInOrder_iff.mpr ⟨fun _ => hasleep.dozeFollows held, by simp [htimer], fun hc => ?_⟩
  rw [State.dozeFollows_dozeCondition, hcond] at hc
  cases hc

/-- R115, R123: a warm start ends in OFF where the cycle delay is 0. -/
theorem Sequencer.cycleDelay_of_warm_off {q : Sequencer} (h : q.warm.state = .off) : q.warm.cycleDelay = 0 := by
  by_contra hd
  have hwait : q.warm.state = .cycleWait := if_neg hd
  cases hwait.symm.trans h

theorem State.dozeInOrder_tick (hs : s.dozeInOrder) : s.tick.dozeInOrder := by
  unfold State.tick
  split
  · exact hs
  · have hempty : s.tickTimers.grantsEmpty = s.grantsEmpty := by
      rw [Bool.eq_iff_iff, State.grantsEmpty_iff, State.grantsEmpty_iff]
      simp [State.tickTimers]
    have htimers : s.tickTimers.dozeInOrder := by
      obtain ⟨hasleep, htimer, hstopped⟩ := State.dozeInOrder_iff.mp hs
      have hcond : s.tickTimers.dozeCondition = s.dozeCondition := by
        simp only [State.dozeCondition, hempty]
        rfl
      refine State.dozeInOrder_iff.mpr ⟨fun hm => ?_, ?_, ?_⟩
      · obtain ⟨h1, h2, h3, h4, h5, h6, h7⟩ := hasleep hm
        refine ⟨h1, h2, hempty.trans h3, h4, ?_, h6, h7⟩
        exact congrArg tickTimer h5
      · rw [hcond]
        simpa [State.tickTimers, tickTimer] using htimer
      · rw [hcond]
        intro hc ht
        refine hstopped hc ?_
        simpa [State.tickTimers, tickTimer] using ht
    exact htimers

/-- Every command keeps DOZE and the doze timer in order. -/
theorem exec_keepsDoze (c : Instr) (h : exec c s = .next t) (hs : s.dozeInOrder) : t.dozeInOrder := by
  have steady {f : State → State} (hf : s.DozeStep (f s)) : (s.event f).dozeInOrder := hf.dozeInOrder_event hs
  have reported {serve : List Byte → State → Served} (hf : ∀ p (b : State), (serve p b).1 = b) (c : Instr)
      (code : Byte) (p : List Byte) : (s.request c code p serve).dozeInOrder :=
    State.dozeInOrder_request (fun p b => by rw [hf p b]; exact (State.SupplyStep.refl b).staysAwake) c code p hs
  have served {serve : List Byte → State → Served} (hf : ∀ (b : State) p, b.SupplyStep (serve p b).1) (c : Instr)
      (code : Byte) (p : List Byte) : (s.request c code p serve).dozeInOrder :=
    State.dozeInOrder_request (fun p b => (hf b p).staysAwake) c code p hs
  cases c <;> cases h
  case readStatus => exact served supplyStep_serveReadStatus _ _ _
  case clearAttention => exact served supplyStep_serveClearAttention _ _ _
  case restart => exact State.dozeInOrder_request (fun p b => staysAwake_serveRestart b p) _ _ _ hs
  case readParam => exact reported (fun p b => serveReadParam_state b p) _ _ _
  case setParam => exact served supplyStep_serveSetParam _ _ _
  case readClock => exact reported (fun p b => serveReadClock_state b p) _ _ _
  case setClock => exact served supplyStep_serveSetClock _ _ _
  case openSurvey => exact served supplyStep_serveOpenSurvey _ _ _
  case addWindow => exact served supplyStep_serveAddWindow _ _ _
  case dropWindow => exact served supplyStep_serveDropWindow _ _ _
  case findSurvey => exact reported (fun p b => serveFindSurvey_state b p) _ _ _
  case findBlock => exact reported (fun p b => serveFindBlock_state b p) _ _ _
  case readEntry => exact reported (fun p b => serveReadEntry_state b p) _ _ _
  case nextEntry => exact reported (fun p b => serveNextEntry_state b p) _ _ _
  case rename => exact served supplyStep_serveRename _ _ _
  -- SEAL, whose name is a keyword of Lean, is the next command in order
  next => exact served supplyStep_serveSeal _ _ _
  case verified => exact served supplyStep_serveVerified _ _ _
  case reopen => exact served supplyStep_serveReopen _ _ _
  case setHold => exact served supplyStep_serveSetHold _ _ _
  case retire => exact served supplyStep_serveRetire _ _ _
  case restore => exact served supplyStep_serveRestore _ _ _
  case checkWrite => exact served supplyStep_serveCheckWrite _ _ _
  case writeDone => exact served supplyStep_serveWriteDone _ _ _
  case readGrants => exact reported (fun p b => serveReadGrants_state b p) _ _ _
  case readGuard => exact reported (fun p b => serveReadGuard_state b p) _ _ _
  case setTarget => exact served supplyStep_serveSetTarget _ _ _
  case readMechanism => exact reported (fun p b => serveReadMechanism_state b p) _ _ _
  case readGauge => exact reported (fun p b => serveReadGauge_state b p) _ _ _
  case setCharge => exact served supplyStep_serveSetCharge _ _ _
  case malformed => exact State.dozeInOrder_refusedWrite hs
  case unknown => exact State.dozeInOrder_refusedWrite hs
  case emptyWrite =>
    exact State.dozeInOrder_transfer (fun _ => Link.lostWrite_idle) (Link.receive_not_idle _)
      (fun _ hm ht => ⟨hm, ht⟩) hs
  case addressMatch address dir =>
    split
    · exact hs
    · exact State.dozeInOrder_onBus (s.dozeStep_addressByte address dir) hs
  case answerFormed => exact steady (.of_leavesSupply s.leavesSupply_answerFormed fun ha => ha.answerFormed)
  case answerRead =>
    exact State.dozeInOrder_transfer (fun _ => Link.lostWrite_idle) (fun _ => nofun) (fun _ hm ht => ⟨hm, ht⟩) hs
  case linkClear =>
    have hcut : (s.setLclr false).DozeStep ((s.setLclr false).onLink Link.cut) := by
      refine State.dozeStep_onLink fun _ => ?_
      obtain ⟨_, _, _, hcut⟩ := (s.setLclr false).link.cut_eq
      rw [hcut]
      rfl
    exact hcut.dozeInOrder_event (s := s.setLclr false) hs
  case linkClearRelease => exact hs
  case sampleTimerExpiry => exact steady (.of_leavesSupply s.leavesSupply_sampleExpiry fun ha => ha.sampleExpiry)
  case setupComplete => exact steady (.of_leavesSupply (s.leavesSupply_setupEnds _) fun ha => ha.setupEnds _)
  case readComplete => exact steady (.of_leavesSupply (s.leavesSupply_readEnds _) fun ha => ha.readEnds _)
  case settleTimerExpiry => exact steady (.of_leavesSupply s.leavesSupply_settleExpiry fun ha => ha.settleExpiry)
  case grantDeadlineExpiry slot => exact steady (s.dozeStep_expireGrant slot)
  case supplySettleExpiry => exact steady (State.dozeStep_phaseExpiry (q := .powering) nofun s.leavesSupply_supplySettles)
  case spinTimeoutExpiry => exact steady (State.dozeStep_phaseExpiry (q := .spinning) nofun s.leavesSupply_spinTimesOut)
  case unloadTimeExpiry => exact steady (State.dozeStep_phaseExpiry (q := .unloading) nofun s.leavesSupply_unloads)
  case spinDownExpiry => exact steady (State.dozeStep_phaseExpiry (q := .stopping) nofun s.leavesSupply_enterCycleWait)
  case cycleDelayExpiry => exact steady (State.dozeStep_phaseExpiry (q := .cycleWait) nofun s.leavesSupply_offReached)
  case drdyAsserted =>
    exact State.DozeStep.dozeInOrder_event (s := s.setDrdy true)
      (.of_leavesSupply (State.leavesSupply_drdyRises _) fun ha => ha.drdyRises) hs
  case drdyReleased =>
    exact State.DozeStep.dozeInOrder_event (s := s.setDrdy false)
      (.of_leavesSupply (State.leavesSupply_drdyFalls _) fun ha => ha.drdyFalls) hs
  case periodEnd code volts => exact steady (s.dozeStep_periodEnds code volts)
  case sprsChange present => exact steady (s.dozeStep_sprsChanges present)
  case dozeTimerExpiry =>
    by_cases he : timerEnded s.supply.dozeTimer = true ∧ s.dozeCondition = true
    · rw [State.event, State.dozeExpiry, if_pos he]
      split
      · exact hs
      · exact State.dozeInOrder_enterDoze he.2
    · exact steady (by rw [State.dozeExpiry, if_neg he]; exact .refl s)
  case enterRetain =>
    split
    · exact hs
    · refine State.dozeInOrder_of_stopped nofun rfl fun hc => ?_
      cases (State.dozeCondition_iff.mp hc).1
  case retainedContentsLoss => split <;> exact hs
  case coldStart sprs adsel =>
    split
    · rw [State.coldStart_eq]
      refine State.dozeInOrder_of_stopped nofun rfl fun hc => ?_
      obtain ⟨-, -, hoff, -⟩ := State.dozeCondition_iff.mp hc
      cases hoff
    · exact hs
  case warmStart sprs adsel =>
    split
    · refine State.dozeInOrder_of_stopped ?_ ?_ fun hc => ⟨?_, ?_⟩
      · rw [State.warmStart_supply]
        exact nofun
      · rw [State.warmStart_supply]
      · rw [State.warmStart_supply]
      · obtain ⟨-, -, hoff, -⟩ := State.dozeCondition_iff.mp hc
        rw [State.warmStart_seq] at hoff ⊢
        exact Sequencer.cycleDelay_of_warm_off hoff
    · exact hs
  case secondStep => split <;> exact hs
  case wakingTransferEnd => exact State.dozeInOrder_onBus s.dozeStep_wakingEnds hs

/-- Settles O60: a tick moves remaining times alone, and every command keeps DOZE in order (`exec_keepsDoze`). -/
theorem dozeStaysInOrder : Obligations.DozeStaysInOrder := by
  intro s t hs h
  unfold step at h
  split at h
  · cases h
    exact State.dozeInOrder_tick hs
  next c rest _ => exact exec_keepsDoze c h hs

end Sys2Proof.Machine

/-! The gauge report and the grants' report, and CHECK-WRITE: what the range alone decides, the holds, and the grant. -/

namespace Sys2Proof.Machine

variable {s u : State} {a : Answer} {p : List Byte}

/-! ## The requests, by their owning block's decision -/

section
variable (hl : s.listens) (hp : p.length ≤ 80)
include hl hp

theorem readGauge_serves (h : serveReadGauge p s = (u, a)) : Serves (.readGauge p) s u a :=
  serves_of_serve rfl (unlinked_readGauge p) (by decide) hl hp h
theorem readGrants_serves (h : serveReadGrants p s = (u, a)) : Serves (.readGrants p) s u a :=
  serves_of_serve rfl (unlinked_readGrants p) (by decide) hl hp h
theorem checkWrite_serves (h : serveCheckWrite p s = (u, a)) : Serves (.checkWrite p) s u a :=
  serves_of_serve rfl (unlinked_checkWrite p) (by decide) hl hp h
theorem writeDone_serves (h : serveWriteDone p s = (u, a)) : Serves (.writeDone p) s u a :=
  serves_of_serve rfl (unlinked_writeDone p) (by decide) hl hp h

end

/-! ## The reports -/

theorem two_mul_flag (b : Bool) : 2 * flag b = if b then 2 else 0 := by
  cases b <;> rfl

theorem Gauge.average_of_nil {g : Gauge} (h : g.currents = []) : g.average = 0 := by
  simp [Gauge.average, h]

theorem Gauge.average_of_ne_nil {g : Gauge} (h : g.currents ≠ []) :
    g.average = g.currents.sum.tdiv g.currents.length := by
  simp [Gauge.average, h]

theorem State.grantList_eq (s : State) : s.grantList = (List.finRange 8).filterMap fun k => s.grants.slots[k] := by
  have hslots : s.grants.slots.toList = (List.finRange 8).map fun k => s.grants.slots[k] := by
    apply List.ext_getElem
    · simp
    · intro n h1 h2
      simp
  rw [State.grantList, hslots, List.filterMap_map]
  rfl

/-- Settles O13: the reports as they are formed, the average by its two cases and the grants in slot order
(`State.grantList_eq`). -/
theorem gaugeAndGrantsAreReported : Obligations.GaugeAndGrantsAreReported := by
  refine ⟨fun s average hs hnil hne => ?_, fun s hs => ?_⟩
  · have haverage : s.gauge.average = average := by
      by_cases h : s.gauge.currents = []
      · rw [Gauge.average_of_nil h, hnil h]
      · rw [Gauge.average_of_ne_nil h, hne h]
    refine readGauge_serves hs (by simp) ?_
    change (s, okAnswer (s.gauge.report s.supply.rPark)) = _
    rw [Gauge.report, haverage, timeToReserve, two_mul_flag]
    rfl
  · refine readGrants_serves hs (by simp) ?_
    change (s, okAnswer (be1 s.grantList.length ++ s.grantList.flatMap Grant.record)) = _
    rw [State.grantList_eq]
    rfl

/-! ## The answers of CHECK-WRITE -/

/-- R33: a check answer of eight bytes, and, unless it is GRANTED, no change of a block. -/
structure State.Checked (s : State) (r : Served) : Prop where
  length : r.2.payload.length = 8
  kept : r.2.code ≠ .granted → r.1 = s

theorem State.checked_unchanged (s : State) (c : Code) (reason count tag : Nat) (slot : Option (Fin 64))
    (window timeout : Nat) : s.Checked (s.unchanged (checkAnswer c reason count tag slot window timeout)) :=
  ⟨rfl, fun _ => rfl⟩

theorem State.checked_grantOrHold (s : State) (slot : Option (Fin 64)) (window first count : Nat) :
    s.Checked (s.grantOrHold slot window first count) := by
  unfold State.grantOrHold
  split
  · exact s.checked_unchanged ..
  · exact s.checked_unchanged ..
  · exact ⟨rfl, fun h => absurd rfl h⟩

theorem State.checked_checkRange (s : State) (first count : Nat) : s.Checked (s.checkRange first count) := by
  unfold State.checkRange
  split
  · exact s.checked_unchanged ..
  · split
    · exact s.checked_unchanged ..
    · split
      · unfold State.checkCovered
        split
        · exact s.checked_unchanged ..
        · split
          · exact s.checked_grantOrHold ..
          · exact s.checked_unchanged ..
      · unfold State.checkUncovered
        split
        · exact s.checked_unchanged ..
        · split
          · exact s.checked_unchanged ..
          · exact s.checked_grantOrHold ..

theorem checked_serveCheckWrite (s : State) (p : List Byte) : s.Checked (serveCheckWrite p s) := by
  unfold serveCheckWrite
  split
  · exact s.checked_unchanged ..
  · exact s.checked_checkRange ..

/-! ## The range (R34 to R37) -/

section
variable {first count : Nat} (hn : count ≠ 0)
include hn

theorem State.checkRange_beyond (h : s.table.mediaLimit < first) :
    s.checkRange first count = s.unchanged (checkAnswer .denied reasonRange 0 0 none 0 0) := by
  rw [State.checkRange, if_neg hn, if_pos h]

variable (hf : first ≤ s.table.mediaLimit)
include hf

theorem State.checkRange_covered {i : Fin 64} {k : Nat} {w : Window} (h : s.coveredBy first i k w) :
    s.checkRange first count = s.checkCovered i k w first count := by
  rw [State.checkRange, if_neg hn, if_neg (Nat.not_lt.mpr hf), State.lookup_of_coveredBy h]

theorem State.checkRange_uncovered (h : s.uncovered first) :
    s.checkRange first count = s.checkUncovered (s.basesAbove first).min? first count := by
  rw [State.checkRange, if_neg hn, if_neg (Nat.not_lt.mpr hf), State.lookup_of_uncovered h]

end

section
variable {first count : Nat} {i : Fin 64} {k : Nat} {w : Window}

theorem State.checkCovered_split (h : w.last < first + count - 1) : s.checkCovered i k w first count =
    s.unchanged (checkAnswer .split reasonNone (w.last - first + 1) 0 (some i) k 0) :=
  if_pos h

theorem State.checkCovered_sealed (h : first + count - 1 ≤ w.last) (ho : (s.entry i).state ≠ .opened) :
    s.checkCovered i k w first count = s.unchanged (checkAnswer .denied reasonSealed 0 0 (some i) k 0) := by
  rw [State.checkCovered, if_neg (Nat.not_lt.mpr h), if_neg ho]

theorem State.checkCovered_opened (h : first + count - 1 ≤ w.last) (ho : (s.entry i).state = .opened) :
    s.checkCovered i k w first count = s.grantOrHold (some i) k first count := by
  rw [State.checkCovered, if_neg (Nat.not_lt.mpr h), if_pos ho]

variable {next : Option Nat}

theorem State.checkUncovered_split {n : Nat} (h : s.gapPrefix next first count = some n) :
    s.checkUncovered next first count = s.unchanged (checkAnswer .split reasonNone n 0 none 0 0) := by
  rw [State.checkUncovered, h]

theorem State.checkUncovered_denied (h : s.gapPrefix next first count = none) (hp : s.table.policy = .deny) :
    s.checkUncovered next first count = s.unchanged (checkAnswer .denied reasonUnmapped 0 0 none 0 0) := by
  rw [State.checkUncovered, h]
  exact if_pos hp

theorem State.checkUncovered_allowed (h : s.gapPrefix next first count = none) (hp : s.table.policy = .allow) :
    s.checkUncovered next first count = s.grantOrHold none 0 first count := by
  rw [State.checkUncovered, h]
  exact if_neg (by simp [hp])

theorem State.gapPrefix_base_split {b : Nat} (h : b ≤ first + count - 1) :
    s.gapPrefix (some b) first count = some (b - first) :=
  if_pos h

theorem State.gapPrefix_base_none {b : Nat} (h : first + count - 1 < b) : s.gapPrefix (some b) first count = none :=
  if_neg (Nat.not_le.mpr h)

theorem State.gapPrefix_limit_split (h : s.table.mediaLimit < first + count - 1) :
    s.gapPrefix none first count = some (s.table.mediaLimit - first + 1) :=
  if_pos h

theorem State.gapPrefix_limit_none (h : first + count - 1 ≤ s.table.mediaLimit) :
    s.gapPrefix none first count = none :=
  if_neg (Nat.not_lt.mpr h)

end

/-- Settles O32: every path of CHECK-WRITE ends in a check answer (`checked_serveCheckWrite`), and the range decides by the
lookup of its first block. -/
theorem rangesAreClassified : Obligations.RangesAreClassified := by
  refine ⟨fun s p hs hp => ?_, fun s b3 b2 b1 b0 n1 n0 i k w hs => ?_⟩
  · obtain ⟨hlength, hkept⟩ := checked_serveCheckWrite s p
    obtain ⟨t, ht, hblocks, hlink, -⟩ := checkWrite_serves hs hp (u := (serveCheckWrite p s).1) rfl
    exact ⟨t, _, ht, hlink, hlength, fun hc => by rw [hblocks, hkept hc]⟩
  · have hanswer {a : Answer} (h : s.checkRange (nat4 b3 b2 b1 b0) (nat2 n1 n0) = s.unchanged a) :
        Refuses (.checkWrite [b3, b2, b1, b0, n1, n0]) s a :=
      checkWrite_serves hs (by simp) h
    refine ⟨fun hn => hanswer (if_pos hn), fun hn hf => hanswer (State.checkRange_beyond hn hf),
      fun hn hf => ⟨fun hc => ⟨fun hlast => ?_, fun hlast ho => ?_⟩, fun hu => ⟨fun base hbase hlt hleast =>
        ⟨fun hle => ?_, fun hgap hp => ?_⟩, fun hlow => ⟨fun hlim => ?_, fun hlim hp => ?_⟩⟩⟩⟩
    · exact hanswer ((State.checkRange_covered hn hf hc).trans (State.checkCovered_split hlast))
    · exact hanswer ((State.checkRange_covered hn hf hc).trans (State.checkCovered_sealed hlast ho))
    · have hnext := State.basesAbove_min?_eq_some hbase hlt hleast
      refine hanswer ((State.checkRange_uncovered hn hf hu).trans (State.checkUncovered_split ?_))
      rw [hnext, State.gapPrefix_base_split hle]
    · have hnext := State.basesAbove_min?_eq_some hbase hlt hleast
      refine hanswer ((State.checkRange_uncovered hn hf hu).trans (State.checkUncovered_denied ?_ hp))
      rw [hnext, State.gapPrefix_base_none hgap]
    · have hnext := State.basesAbove_min?_eq_none hlow
      refine hanswer ((State.checkRange_uncovered hn hf hu).trans (State.checkUncovered_split ?_))
      rw [hnext, State.gapPrefix_limit_split hlim]
    · have hnext := State.basesAbove_min?_eq_none hlow
      refine hanswer ((State.checkRange_uncovered hn hf hu).trans (State.checkUncovered_denied ?_ hp))
      rw [hnext, State.gapPrefix_limit_none hlim]

/-! ## The hold or the grant (R38 to R40) -/

/-- R34: a range that may be written is held, answered FULL, or granted. -/
theorem State.checkRange_of_mayWrite {first count window : Nat} {slot : Option (Fin 64)}
    (h : s.mayWrite first count slot window) :
    s.checkRange first count = s.grantOrHold slot window first count := by
  obtain ⟨hn, hf, ⟨i, w, rfl, hc, hlast, ho⟩ | ⟨rfl, rfl, hu, hlim, hp, hgap⟩⟩ := h
  · rw [State.checkRange_covered hn hf hc, State.checkCovered_opened ?_ ho]
    unfold Window.last Window.length
    omega
  · rw [State.checkRange_uncovered hn hf hu, State.checkUncovered_allowed ?_ hp]
    cases hb : (s.basesAbove first).min? with
    | none => exact State.gapPrefix_limit_none hlim
    | some b =>
      obtain ⟨hlt, j, v, hlive, hv, rfl⟩ := State.mem_basesAbove.mp (List.min?_mem hb)
      have := hgap j v hlive hv hlt
      exact State.gapPrefix_base_none (by omega)

theorem Guard.permits_eq_false_iff (g : Guard) : g.permits = false ↔ g.state = .watch ∨ g.state = .falling ∨
    g.state = .settle ∨ (g.state = .blind ∧ g.blindPolicy = .hold) := by
  unfold Guard.permits
  cases g.state <;> cases g.blindPolicy <;> simp

theorem State.holdReason_eq_some_iff {reason : Nat} : s.holdReason = some reason ↔ s.holdsFor reason := by
  unfold State.holdReason State.holdsFor
  simp only [← Guard.permits_eq_false_iff, ← State.critical_iff]
  split
  next h => simp [h, reasonShock, @eq_comm _ _ reason]
  next h =>
    split
    next hc => simp [h, hc, reasonBattery, @eq_comm _ _ reason]
    next hc =>
      split
      next hr => simp [h, hc, hr, reasonPower, @eq_comm _ _ reason]
      next hr => simp [h, hc, not_not.mp hr]

theorem State.grantOrHold_held {reason window first count : Nat} {slot : Option (Fin 64)}
    (h : s.holdReason = some reason) : s.grantOrHold slot window first count =
      s.unchanged (checkAnswer .hold reason 0 0 slot window 0) := by
  rw [State.grantOrHold, h]

theorem State.grantOrHold_full {window first count : Nat} {slot : Option (Fin 64)} (h : s.holdReason = none)
    (hfull : s.lowestFreeGrant = none) : s.grantOrHold slot window first count = s.unchanged (bareCheck .full) := by
  rw [State.grantOrHold, h, hfull]

theorem State.grantOrHold_granted {window first count : Nat} {slot : Option (Fin 64)} {k : Fin 8}
    (h : s.holdReason = none) (hfree : s.lowestFreeGrant = some k) : s.grantOrHold slot window first count =
      (match slot with
        | some i => (s.issueGrant k slot window first count).modifyEntry i Entry.addIssued
        | none => s.issueGrant k slot window first count,
       checkAnswer .granted reasonNone count ((s.grants.generations[k] + 1).val * 8 + k.val) slot window
        s.grants.timeout) := by
  simp only [State.grantOrHold, h, hfree] <;> rfl

theorem State.lowestFreeGrant_of_full (h : ∀ k : Fin 8, s.grants.slots[k] ≠ none) : s.lowestFreeGrant = none :=
  finRange_find?_eq_none _ fun j => by simpa [Option.isNone_eq_false_iff, Option.isSome_iff_ne_none] using h j

theorem State.lowestFreeGrant_of_lowest {k : Fin 8} (h : s.grants.slots[k] = none)
    (hlt : ∀ j, j < k → s.grants.slots[j] ≠ none) : s.lowestFreeGrant = some k :=
  finRange_find?_eq_some _ k (by simp [h]) fun j hj => by
    simpa [Option.isNone_eq_false_iff, Option.isSome_iff_ne_none] using hlt j hj

/-- Settles O33: a range that may be written goes to `State.grantOrHold`, whose three cases are the hold, FULL and the
grant in the lowest free slot. -/
theorem writesAreHeldOrGranted : Obligations.WritesAreHeldOrGranted := by
  intro s b3 b2 b1 b0 n1 n0 slot window hs hw c slotByte
  have hserve : serveCheckWrite [b3, b2, b1, b0, n1, n0] s =
      s.grantOrHold slot window (nat4 b3 b2 b1 b0) (nat2 n1 n0) := State.checkRange_of_mayWrite hw
  have hslot : be1 (Machine.slotByte slot) = [slotByte] := by cases slot <;> rfl
  refine ⟨fun reason hr => ?_, fun hnone => ⟨fun hfull => ?_, fun k hk hlt => ?_⟩⟩
  · refine checkWrite_serves hs (by simp)
      (hserve.trans ((State.grantOrHold_held (State.holdReason_eq_some_iff.mpr hr)).trans ?_))
    simp only [State.unchanged, checkAnswer, hslot]
    rfl
  all_goals
    have hreason : s.holdReason = none :=
      Option.eq_none_iff_forall_ne_some.mpr fun r hr => hnone r (State.holdReason_eq_some_iff.mp hr)
  · exact checkWrite_serves hs (by simp)
      (hserve.trans (State.grantOrHold_full hreason (State.lowestFreeGrant_of_full hfull)))
  · refine checkWrite_serves hs (by simp)
      (hserve.trans ((State.grantOrHold_granted hreason (State.lowestFreeGrant_of_lowest hk hlt)).trans ?_))
    simp only [checkAnswer, hslot, be2_nat2]
    cases slot <;> rfl

end Sys2Proof.Machine

/-! WRITE-DONE and the expiry of a deadline. -/

namespace Sys2Proof.Machine

variable {s t u : State}

/-! ## Events that do not happen -/

theorem State.dozeFollows_self (s : State) : s.dozeFollows s.dozeCondition = s := by
  unfold State.dozeFollows
  cases s.dozeCondition <;> simp

theorem State.event_of_idle {f : State → State} (h : f s = s) : s.event f = s := by
  unfold State.event
  rw [h, State.dozeFollows_self, ite_self]

theorem State.event_of_retain {f : State → State} (h : s.supply.mode = .retain) : s.event f = s := if_pos h

/-! ## The removal of a grant (R46, R47) -/

/-- R46: the settling of an entry is what Safety.lean says of it. -/
theorem State.settles_settleEntry (s : State) (i : Fin 64) : Settles i s (s.settleEntry i) := by
  refine ⟨State.settleEntry_of_named, fun hg hr => ?_, fun hg hc hv => ?_, fun hg hc hv => ?_, fun hr hc => ?_⟩
  · simp only [State.settleEntry, State.not_named hg, hr]
    rfl
  · simp only [State.settleEntry, State.not_named hg, hc, hv, State.sealEntry]
    rfl
  · simp only [State.settleEntry, State.not_named hg, hc, hv]
    rfl
  · unfold State.settleEntry
    split
    · rfl
    · split
      next h => exact absurd h hr
      next h => exact absurd h hc
      all_goals rfl

/-- R47, R112: the signal of an empty grant table is what Safety.lean says of it. -/
theorem State.emptySignal_eq (s : State) : s.emptySignal = s.released := by
  unfold State.emptySignal State.released
  simp only [State.grantsEmpty_iff]
  rfl

theorem State.removeGrant_mapped (s : State) {k : Fin 8} {g : Grant} {f : Entry → Entry} {i : Fin 64}
    (h : g.entry = some i) :
    s.removeGrant k g f = (((s.setGrant k none).modifyEntry i f).settleEntry i).released := by
  rw [← State.emptySignal_eq, State.removeGrant, h]

theorem State.removeGrant_unmapped (s : State) {k : Fin 8} {g : Grant} {f : Entry → Entry} (h : g.entry = none) :
    s.removeGrant k g f = (s.setGrant k none).released := by
  rw [← State.emptySignal_eq, State.removeGrant, h]

theorem State.entry_released (s : State) (i : Fin 64) : s.released.entry i = s.entry i := by
  rw [← State.emptySignal_eq]
  exact State.entry_congr (State.emptySignal_table s) i

/-! ## WRITE-DONE (R42, R43) -/

theorem serveWriteDone_of_result {tag result : Byte} (h : 1 < result.toNat) :
    serveWriteDone [tag, result] s = s.unchanged (refusal .badArg) :=
  if_pos h

section
variable {tag result : Byte} (h : result.toNat ≤ 1)
include h

theorem serveWriteDone_of_stale (hg : s.grantOfTag tag.toNat = none) :
    serveWriteDone [tag, result] s = s.unchanged (refusal .stale) := by
  refine (if_neg (Nat.not_lt.mpr h)).trans ?_
  rw [hg]

theorem serveWriteDone_of_grant {g : Grant} (hg : s.grantOfTag tag.toNat = some g) :
    serveWriteDone [tag, result] s =
      (s.removeGrant (tagSlot tag.toNat) g (doneEffect result.toNat g.count),
       okAnswer (be1 (slotByte g.entry) ++
        be1 ((s.removeGrant (tagSlot tag.toNat) g (doneEffect result.toNat g.count)).doneState g.entry))) := by
  refine (if_neg (Nat.not_lt.mpr h)).trans ?_
  rw [hg]

end

theorem doneEffect_of_result (result : Byte) (n : Nat) : doneEffect result.toNat n = fun e =>
    if result = 0 then { e with written := min 4294967295 (e.written + n) } else { e with verify := true } := by
  have hzero : result.toNat = 0 ↔ result = 0 := by
    rw [← BitVec.toNat_inj]
    rfl
  unfold doneEffect
  simp only [hzero]
  split <;> rfl

theorem State.grantOfTag_eq_none {tag : Nat} (h : ∀ g, s.grants.slots[tagSlot tag] = some g → g.tag ≠ tag) :
    s.grantOfTag tag = none := by
  unfold State.grantOfTag
  split
  next g hg => exact if_neg (h g hg)
  next => rfl

theorem State.grantOfTag_eq_some {tag : Nat} {g : Grant} (h : s.grants.slots[tagSlot tag] = some g) (ht : g.tag = tag) :
    s.grantOfTag tag = some g := by
  rw [State.grantOfTag, h]
  exact if_pos ht

/-! ## The expiry of a deadline (R44) -/

theorem exec_grantDeadlineExpiry (s : State) (k : Fin 8) :
    exec (.grantDeadlineExpiry k) s = .next (s.event (State.expireGrant k)) := rfl

theorem State.expireGrant_of_free {k : Fin 8} (h : s.grants.slots[k] = none) : s.expireGrant k = s := by
  rw [State.expireGrant, h]

theorem State.expireGrant_of_running {k : Fin 8} {g : Grant} (h : s.grants.slots[k] = some g) (hr : g.remaining ≠ 0) :
    s.expireGrant k = s := by
  rw [State.expireGrant, h]
  exact if_neg hr

theorem State.expireGrant_of_ended {k : Fin 8} {g : Grant} (h : s.grants.slots[k] = some g) (hr : g.remaining = 0) :
    s.expireGrant k = (s.raise .expired).removeGrant k g Entry.mark := by
  rw [State.expireGrant, h]
  exact if_pos hr

/-- An expired deadline leaves what the removal of its grant leaves. -/
theorem becomes_of_expired {k : Fin 8} {g : Grant} (hm : s.supply.mode ≠ .retain) (h : s.grants.slots[k] = some g)
    (hr : g.remaining = 0) :
    Becomes (.grantDeadlineExpiry k) s ((s.raise .expired).removeGrant k g Entry.mark) := by
  have hexpire := State.expireGrant_of_ended h hr
  refine becomes_of_event (exec_grantDeadlineExpiry s k) hm ?_ ?_ ?_
  · rw [hexpire]
  · rw [hexpire]
    simp
  · rw [hexpire]
    exact ((s.raise .expired).supplyStep_removeGrant k g Entry.mark).timer

/-- Settles O34: both remove a grant with `State.removeGrant`, which settles the entry it named (`State.settles_settleEntry`)
and then signals an empty table (`State.emptySignal_eq`). -/
theorem donesAndExpiriesRemoveGrants : Obligations.DonesAndExpiriesRemoveGrants := by
  refine ⟨fun s tag result hs => ?_, fun s k hm => ?_⟩
  · refine ⟨fun h => writeDone_serves hs (by simp) (serveWriteDone_of_result h), fun h hstale => ?_,
      fun g h hg htag => ⟨fun hi => ?_, fun i hi => ?_⟩⟩
    · exact writeDone_serves hs (by simp) (serveWriteDone_of_stale h (State.grantOfTag_eq_none hstale))
    all_goals have hserve := serveWriteDone_of_grant h (State.grantOfTag_eq_some hg htag)
    · rw [hi, State.removeGrant_unmapped s hi] at hserve
      exact writeDone_serves hs (by simp) hserve
    · rw [hi, State.removeGrant_mapped s hi, doneEffect_of_result] at hserve
      simp only [State.doneState, State.entry_released] at hserve
      exact ⟨_, State.settles_settleEntry _ i, writeDone_serves hs (by simp) hserve⟩
  · refine ⟨fun h => ?_, fun g h hr => ?_, fun g h hr => ⟨fun hi => ?_, fun i hi => ?_⟩⟩
    · rw [exec_grantDeadlineExpiry, State.event_of_idle (State.expireGrant_of_free h)]
    · rw [exec_grantDeadlineExpiry, State.event_of_idle (State.expireGrant_of_running h hr)]
    all_goals have hbecomes := becomes_of_expired hm h hr
    · rw [State.removeGrant_unmapped _ hi] at hbecomes
      exact hbecomes
    · rw [State.removeGrant_mapped _ hi] at hbecomes
      exact ⟨_, State.settles_settleEntry _ i, hbecomes⟩

end Sys2Proof.Machine

/-! Knocks and falls. -/

namespace Sys2Proof.Machine

variable {s t u : State}

/-! ## A sample taken (R79, R83, R85) -/

theorem axis_of_bounds {high low : Byte} {x : Int} (h1 : 16 * x ≤ (high ++ low).toInt)
    (h2 : (high ++ low).toInt < 16 * x + 16) : axis high low = x := by
  unfold axis
  omega

/-- The sample the port judges is the one the data bytes measure. -/
theorem Sample.readSample_eq {p : Sample} {ff fi : Nat} {data : List Byte} (h : p.measures ff fi data) :
    readSample ff fi data = some p := by
  obtain ⟨⟨xh, xl, yh, yl, zh, zl, rest, rfl, hx1, hx2, hy1, hy2, hz1, hz2⟩, hm2, himpact, hlow, hnormal⟩ := h
  have hx := axis_of_bounds hx1 hx2
  have hy := axis_of_bounds hy1 hy2
  have hz := axis_of_bounds hz1 hz2
  have hm : magnitude2 p.x p.y p.z = p.m2 := by
    rw [magnitude2, ← hm2]
    rfl
  have hcls : classify ff fi p.m2 = p.cls := by
    unfold classify
    split
    next h1 => exact (himpact h1).symm
    next h1 =>
      split
      next h2 => exact (hlow (Nat.not_lt.mp h1) h2).symm
      next h2 => exact (hnormal (Nat.not_lt.mp h1) (Nat.not_lt.mp h2)).symm
  simp only [readSample, hx, hy, hz, hm, hcls]

theorem Sample.judgedSample_eq {p : Sample} {ff fi : Nat} {data : List Byte} (h : p.measures ff fi data) :
    judgedSample ff fi true true true data = some p := by
  have hread : readFailed true true true data = false := by
    obtain ⟨⟨xh, xl, yh, yl, zh, zl, rest, rfl, -⟩, -⟩ := h
    simp [readFailed]
  rw [judgedSample, hread]
  exact Sample.readSample_eq h

/-- R79: a good read is taken by the guard as a sample. -/
theorem State.readEnds_of_good {p : Sample} (h : s.guard.transfer = .read) :
    s.readEnds (some p) = (s.onGuard (Guard.goodRead p)).takeSample p.m2 p.cls := by
  unfold State.readEnds
  rw [if_neg (not_not.mpr h)]

/-- R79: a good read leaves what the guard makes of its sample. -/
theorem becomes_of_sample {data : List Byte} {p : Sample} (hm : s.supply.mode ≠ .retain)
    (htransfer : s.guard.transfer = .read) (hp : p.measures s.guard.ff s.guard.fi data)
    (hu : (s.onGuard (Guard.goodRead p)).takeSample p.m2 p.cls = u) (hlink : u.link = s.link) :
    Becomes (.readComplete true true true data) s u := by
  have hread : s.readEnds (judgedSample s.guard.ff s.guard.fi true true true data) = u := by
    rw [Sample.judgedSample_eq hp, State.readEnds_of_good htransfer, hu]
  refine becomes_of_event (f := State.readEnds (judgedSample s.guard.ff s.guard.fi true true true data)) rfl hm ?_ ?_ ?_
  · rw [hread]
  · rw [hread, hlink]
  · rw [(s.leavesSupply_readEnds _).supply]

theorem State.leaveBlind_of_seeing (h : s.guard.state ≠ .blind) : s.leaveBlind = s := if_neg h

/-- R107: a guard state in which the disk is not let up changes nothing of the sequencer. -/
theorem State.guardEnters_of_not_permits {g : GuardState} (h1 : g ≠ .calm) (h2 : g ≠ .blind) :
    s.guardEnters g = s.onGuard fun guard => { guard with state := g } := by
  have hstay : (s.onGuard fun guard => { guard with state := g }).powerUpCheck =
      s.onGuard fun guard => { guard with state := g } := by
    refine State.powerUpCheck_of_not ?_
    rintro ⟨-, hp⟩
    obtain ⟨-, -, hguard, -⟩ := State.precondition_iff.mp hp
    rcases hguard with hg | ⟨hg, -⟩
    · exact h1 hg
    · exact h2 hg
  unfold State.guardEnters
  simp only [hstay, ite_self]

/-- R91, R95: a further fall within an episode that has noted its sample. -/
theorem Episode.fallAgain_note (e : Episode) (m2 : Nat) : (e.note m2).fallAgain = { e with
    kind := .fall, falls := min 255 (e.falls + 1), peak := if e.isOpen then max e.peak m2 else e.peak } := by
  unfold Episode.note
  split <;> rfl

/-! ## Jolt markings (R48) -/

theorem State.entry_joltMarking_of_hasGrant {i : Fin 64} (h : s.hasGrant i) : s.joltMarking.entry i = (s.entry i).jolt :=
  (s.entry_mapEntries _ i).trans (if_pos (State.named_iff.mpr h))

theorem State.entry_joltMarking_of_not {i : Fin 64} (h : ¬ s.hasGrant i) : s.joltMarking.entry i = s.entry i :=
  (s.entry_mapEntries _ i).trans (if_neg (by simp [State.not_named h]))

/-! What a jolt marking and an emergency unload leave in place can be done before or after them. -/

theorem State.onTable_onSeq (g : SurveyTable → SurveyTable) (f : Sequencer → Sequencer) :
    (s.onSeq f).onTable g = (s.onTable g).onSeq f := rfl

theorem State.onTable_onGuard (g : SurveyTable → SurveyTable) (f : Guard → Guard) :
    (s.onGuard f).onTable g = (s.onTable g).onGuard f := rfl

theorem State.onSeq_onGuard (g : Sequencer → Sequencer) (f : Guard → Guard) :
    (s.onGuard f).onSeq g = (s.onSeq g).onGuard f := rfl

theorem State.onGuard_onGuard (f g : Guard → Guard) : (s.onGuard g).onGuard f = s.onGuard fun x => f (g x) := rfl

theorem State.onGuard_raise (f : Guard → Guard) (c : Cause) : (s.raise c).onGuard f = (s.onGuard f).raise c := rfl

theorem State.joltMarking_onSeq (f : Sequencer → Sequencer) : (s.onSeq f).joltMarking = s.joltMarking.onSeq f := by
  unfold State.joltMarking State.mapEntries
  exact State.onTable_onSeq _ f

theorem State.joltMarking_onGuard (f : Guard → Guard) : (s.onGuard f).joltMarking = s.joltMarking.onGuard f := by
  unfold State.joltMarking State.mapEntries
  exact State.onTable_onGuard _ f

/-- R91, R116: what a fall does to the sequencer. -/
def Sequencer.fallen (q : Sequencer) : Sequencer :=
  match q.state with
  | .ready | .draining => q.toUnloading .fall
  | .powering | .spinning => q.toStopping .fall
  | .unloading | .stopping | .cycleWait | .off => q

theorem State.emergencyUnload_eq (s : State) : s.emergencyUnload = s.onSeq Sequencer.fallen := by
  unfold State.emergencyUnload State.onSeq Sequencer.fallen
  cases s.seq.state <;> rfl

/-! ## Knocks and falls (R90, R91) -/

/-- R90: what a knock does to the guard. -/
def Guard.knocked (m2 : Nat) (g : Guard) : Guard :=
  { g with
    state := .settle, run := 0, settle := some g.settleTime, fallMs := 0, knocks := min 65535 (g.knocks + 1),
    episode := Episode.start .knock m2 0 }

/-- R91: what a fall does to the guard. -/
def Guard.fallen (m2 : Nat) (g : Guard) : Guard := { g.beginFall m2 with state := .falling }

/-- R107: in SETTLE nothing is let up. -/
theorem State.knock_eq (s : State) (m2 : Nat) : s.knock m2 = (s.joltMarking.onGuard (Guard.knocked m2)).raise .knock := by
  rw [State.knock, State.guardEnters_of_not_permits (g := .settle) nofun nofun, State.onGuard_raise, State.onGuard_onGuard]
  rfl

/-- R107: in FALLING nothing is let up. -/
theorem State.enterFalling_eq (s : State) (m2 : Nat) :
    s.enterFalling m2 = ((s.joltMarking.onSeq Sequencer.fallen).onGuard (Guard.fallen m2)).raise .fall := by
  rw [State.enterFalling, State.guardEnters_of_not_permits (g := .falling) nofun nofun, State.onGuard_raise,
    State.onGuard_onGuard, State.emergencyUnload_eq, State.joltMarking_onSeq]
  rfl

/-- R90: an IMPACT sample in CALM or WATCH is a knock. -/
theorem State.takeSample_impact {m2 : Nat} (h : s.guard.state = .calm ∨ s.guard.state = .watch) :
    s.takeSample m2 .impact = s.knock m2 := by
  have hseeing : s.leaveBlind = s := State.leaveBlind_of_seeing (by rcases h with h | h <;> simp [h])
  rcases h with h | h <;> simp only [State.takeSample, hseeing, h] <;> rfl

/-- R91: the run counter starts anew at a fall. -/
theorem State.enterFalling_setRun (s : State) (n m2 : Nat) : (s.setRun n).enterFalling m2 = s.enterFalling m2 := by
  rw [State.enterFalling_eq, State.enterFalling_eq, State.setRun, State.joltMarking_onGuard, State.onSeq_onGuard,
    State.onGuard_onGuard]
  rfl

/-- R88, R89, R93: a LOW sample that completes the run is a fall. -/
theorem State.takeSample_low {m2 : Nat} (h : (s.guard.state = .calm ∧ s.guard.nf ≤ 1) ∨
    ((s.guard.state = .watch ∨ s.guard.state = .settle) ∧ s.guard.nf ≤ s.guard.run + 1)) :
    s.takeSample m2 .low = s.enterFalling m2 := by
  have hseeing : s.leaveBlind = s :=
    State.leaveBlind_of_seeing (by rcases h with ⟨h, -⟩ | ⟨h | h, -⟩ <;> simp [h])
  have hcompletes (v : State) (next : GuardState) (hv : v.guard.nf ≤ v.guard.run + 1) :
      v.lowSample m2 next = v.enterFalling m2 := if_pos hv
  rcases h with ⟨h, hn⟩ | ⟨h | h, hn⟩ <;> simp only [State.takeSample, hseeing, h]
  · exact (hcompletes (s.setRun 0) .watch hn).trans (s.enterFalling_setRun 0 m2)
  · exact hcompletes s .watch hn
  · exact hcompletes s .settle hn

/-- R95: the episode of a fall, whose sample the read has noted in the episode (R79). -/
theorem Guard.fallen_goodRead (g : Guard) (p : Sample) : (g.goodRead p).fallen p.m2 = { g with
    state := .falling, run := 0, settle := none, fallMs := 0, transfer := .none, misses := 0, lastSample := some p,
    falls := min 65535 (g.falls + 1),
    episode := if g.state = .settle
      then { g.episode with
        kind := .fall, falls := min 255 (g.episode.falls + 1),
        peak := if g.episode.isOpen then max g.episode.peak p.m2 else g.episode.peak }
      else { kind := .fall, isOpen := true, peak := p.m2, duration := 0, falls := 1 } } := by
  simp only [Guard.fallen, Guard.beginFall, Guard.goodRead, Episode.fallAgain_note, Episode.start]

theorem State.parts_of_blocks (h : t.blocks = u.blocks) :
    t.table = u.table ∧ t.guard = u.guard ∧ t.seq = u.seq ∧ t.attention = u.attention := by
  simp only [State.blocks, State.mk.injEq] at h
  obtain ⟨htable, -, hguard, hseq, -, -, -, hattention, -⟩ := h
  exact ⟨htable, hguard, hseq, hattention⟩

/-- What a sample does not reach stands: the blocks are those of the start but for the guard, the sequencer, the survey table
and the causes. -/
theorem State.blocks_of_kept (h : t.blocks = u.blocks) (hgrants : u.grants = s.grants) (hgauge : u.gauge = s.gauge)
    (hsupply : u.supply = s.supply) (hclock : u.clock = s.clock) (hpins : u.pins = s.pins)
    (hfree : u.freeCount = s.freeCount) (hpending : u.pending = s.pending) :
    t.blocks = State.blocks { s with guard := t.guard, seq := t.seq, table := t.table, attention := t.attention } := by
  obtain ⟨htable, hguard, hseq, hattention⟩ := State.parts_of_blocks h
  rw [h, hguard, hseq, htable, hattention]
  simp only [State.blocks, hgrants, hgauge, hsupply, hclock, hpins, hfree, hpending]

/-- R48: what the jolt marking leaves of the survey table. -/
theorem State.jolted_of_table (h : t.table = s.joltMarking.table) :
    (∀ i, s.hasGrant i → t.entry i = { s.entry i with jolts := min 255 ((s.entry i).jolts + 1), verify := true }) ∧
    (∀ i, ¬ s.hasGrant i → t.entry i = s.entry i) ∧
    t.table.mediaLimit = s.table.mediaLimit ∧ t.table.policy = s.table.policy := by
  have hlimit : s.joltMarking.table.mediaLimit = s.table.mediaLimit := by
    simp only [State.joltMarking, State.mapEntries, State.onTable_table]
  have hpolicy : s.joltMarking.table.policy = s.table.policy := by
    simp only [State.joltMarking, State.mapEntries, State.onTable_table]
  exact ⟨fun i hi => (State.entry_congr h i).trans (State.entry_joltMarking_of_hasGrant hi),
    fun i hi => (State.entry_congr h i).trans (State.entry_joltMarking_of_not hi),
    (congrArg SurveyTable.mediaLimit h).trans hlimit, (congrArg SurveyTable.policy h).trans hpolicy⟩

/-- Settles O39: the knock and the fall in parts (`State.knock_eq`, `State.enterFalling_eq`), the records by the jolt marking
(`State.jolted_of_table`), and what neither reaches by the frames of their parts (`State.blocks_of_kept`). -/
theorem knocksAndFallsMarkEntries : Obligations.KnocksAndFallsMarkEntries := by
  refine ⟨fun s data p hm htransfer hp hcls hstate => ?_, fun s data p hm htransfer hp hcls hstate => ?_⟩
  · have htake : (s.onGuard (Guard.goodRead p)).takeSample p.m2 p.cls =
        ((s.joltMarking.onGuard (Guard.goodRead p)).onGuard (Guard.knocked p.m2)).raise .knock := by
      rw [hcls, State.takeSample_impact (s := s.onGuard (Guard.goodRead p)) hstate, State.knock_eq, State.joltMarking_onGuard]
    obtain ⟨t, ht, hblocks, hlink, hdoze⟩ := becomes_of_sample hm htransfer hp htake (by simp)
    obtain ⟨htable, hguard, hseq, hattention⟩ := State.parts_of_blocks hblocks
    obtain ⟨hnamed, hother, hlimit, hpolicy⟩ := State.jolted_of_table (s := s) (by simpa using htable)
    have hkept := State.blocks_of_kept (s := s) hblocks (by simp) (by simp) (by simp) (by simp) (by simp) (by simp) (by simp)
    simp only [State.raise_seq, State.onGuard_seq, State.joltMarking_seq] at hseq
    rw [hseq] at hkept
    refine ⟨t, ht, hdoze, ?_, hnamed, hother, hlimit, hpolicy, ?_, hkept, hlink⟩
    · simpa [Guard.knocked, Guard.goodRead, Episode.start] using hguard
    · rw [hattention, State.raise, show Cause.knock.bit = 0x020#11 by decide]
      simp
  · have htake : (s.onGuard (Guard.goodRead p)).takeSample p.m2 p.cls =
        (((s.joltMarking.onSeq Sequencer.fallen).onGuard (Guard.goodRead p)).onGuard (Guard.fallen p.m2)).raise .fall := by
      rw [hcls, State.takeSample_low (s := s.onGuard (Guard.goodRead p)) hstate, State.enterFalling_eq, State.joltMarking_onGuard,
        State.onSeq_onGuard]
    obtain ⟨t, ht, hblocks, hlink, hdoze⟩ := becomes_of_sample hm htransfer hp htake (by simp)
    obtain ⟨htable, hguard, hseq, hattention⟩ := State.parts_of_blocks hblocks
    obtain ⟨hnamed, hother, hlimit, hpolicy⟩ := State.jolted_of_table (s := s) (by simpa using htable)
    have hkept := State.blocks_of_kept (s := s) hblocks (by simp) (by simp) (by simp) (by simp) (by simp) (by simp) (by simp)
    refine ⟨t, ht, hdoze, ?_, ?_, hnamed, hother, hlimit, hpolicy, ?_, hkept, hlink⟩
    · simpa [Guard.fallen_goodRead] using hguard
    · exact hseq.trans (by simp only [State.raise_seq, State.onGuard_seq, State.onSeq_seq, State.joltMarking_seq]; rfl)
    · rw [hattention, State.raise, show Cause.fall.bit = 0x001#11 by decide]
      simp

end Sys2Proof.Machine

/-! The entry to RETAIN and the part in RETAIN. -/

namespace Sys2Proof.Machine

variable {s : State}

/-! ## What the entry leaves of each block -/

/-- R99: the guard in RETAIN is stopped, with an open episode closed. -/
theorem Guard.retain_eq (g : Guard) : g.retain = { g with
    state := .calm, run := 0, settle := none, fallMs := 0, transfer := .none, setupPending := true, misses := 0,
    lastSample := none, sampleTimer := none,
    episode := { g.episode with
      isOpen := false,
      duration := if g.state = .falling then min 65535 (g.episode.duration + g.fallMs) else g.episode.duration } } := by
  simp only [Guard.retain, Guard.closeEpisode, Guard.restart, Episode.addFall]
  split <;> rfl

theorem SeqState.powered_iff (q : SeqState) : q.powered = true ↔ ¬ (q = .off ∨ q = .cycleWait) := by
  cases q <;> simp [SeqState.powered]

/-- R122: the stop cause the sequencer keeps. -/
theorem Sequencer.retain_stopCause (q : Sequencer) :
    q.retain.stopCause = if q.state = .off ∨ q.state = .cycleWait then q.stopCause else .supplyLoss := by
  simp only [Sequencer.retain, SeqState.powered_iff, ite_not]

theorem State.parameterTable_enterRetain (s : State) : s.enterRetain.parameterTable = s.parameterTable := by
  simp [State.parameterTable, State.enterRetain, Guard.retain_eq, Sequencer.retain, Sequencer.toOff, Gauge.retain]

theorem State.attnAsserted_enterRetain (s : State) : s.enterRetain.attnAsserted = false := rfl

theorem exec_enterRetain (h : s.supply.mode ≠ .retain) : exec .enterRetain s = .next s.enterRetain :=
  congrArg Host.Outcome.next (if_neg h)

/-! ## Events in RETAIN -/

/-- R158: a command that is an event is none in RETAIN. -/
theorem exec_of_event_of_retain {c : Instr} {f : State → State} (h : s.supply.mode = .retain)
    (hc : exec c s = .next (s.event f)) : exec c s = .next s := by
  rw [hc, State.event_of_retain h]

theorem State.onBus_of_retain {c : Instr} {f : State → State} (h : s.supply.mode = .retain) : s.onBus c f = s := by
  unfold State.onBus
  split <;> exact State.event_of_retain h

/-- Settles O48: the entry block by block (`Guard.retain_eq`, `Sequencer.retain_stopCause`), and the rest because
`State.event` does nothing in RETAIN. -/
theorem retainKeepsTheStore : Obligations.RetainKeepsTheStore := by
  refine fun s => ⟨fun hm => ?_, fun hm => ?_, fun hm => ?_, fun hm => ⟨fun c hc => ?_, ?_, ?_, ?_, ?_, ?_, ?_, ?_, ?_⟩⟩
  · have hguard : s.enterRetain.guard = s.guard.retain := rfl
    have hseq : s.enterRetain.seq = s.seq.retain := rfl
    refine ⟨s.enterRetain, exec_enterRetain hm, ?_⟩
    rw [s.parameterTable_enterRetain, hguard, hseq, Guard.retain_eq, Sequencer.retain_stopCause]
    exact ⟨rfl, rfl, rfl, rfl, rfl, rfl, rfl, rfl, rfl, rfl, rfl, rfl, rfl, rfl, rfl, rfl, rfl, rfl, rfl, rfl, rfl, rfl, rfl,
      rfl, rfl, s.attnAsserted_enterRetain, rfl, rfl, rfl, rfl, rfl, rfl⟩
  · exact congrArg Host.Outcome.next (if_pos hm)
  · exact congrArg Host.Outcome.next (if_neg hm)
  · have hwaking : exec .wakingTransferEnd s = .next s := congrArg Host.Outcome.next (State.onBus_of_retain hm)
    have hretain : exec .enterRetain s = .next s := congrArg Host.Outcome.next (if_pos hm)
    simp only [List.mem_cons, List.not_mem_nil, or_false] at hc
    rcases hc with rfl | rfl | rfl | hc
    · exact hretain
    · exact exec_of_event_of_retain hm rfl
    · exact hwaking
    · rcases hc with rfl | rfl | rfl | rfl | rfl | rfl | rfl | rfl <;> exact exec_of_event_of_retain hm rfl
  · exact fun k => exec_of_event_of_retain hm rfl
  · exact fun a b c d => exec_of_event_of_retain hm rfl
  · exact fun a b c data => exec_of_event_of_retain hm rfl
  · exact fun code volts => exec_of_event_of_retain hm rfl
  · exact fun present => exec_of_event_of_retain hm rfl
  · exact congrArg Host.Outcome.next (State.event_of_retain (s := s.setDrdy true) hm)
  · exact congrArg Host.Outcome.next (State.event_of_retain (s := s.setDrdy false) hm)
  · exact congrArg Host.Outcome.next (State.event_of_retain (s := s.setLclr false) hm)

end Sys2Proof.Machine

/-! The custody of an entry, continued: VERIFIED, REOPEN and SET-HOLD; and R63, that no command shortens or removes a hold
(`exec_keepsHolds`). -/

namespace Sys2Proof.Machine

variable {s t u : State} {a : Answer} {p : List Byte}

/-! ## The requests, by their owning block's decision -/

section
variable (hl : s.listens) (hp : p.length ≤ 80)
include hl hp

theorem verified_serves (h : serveVerified p s = (u, a)) : Serves (.verified p) s u a :=
  serves_of_serve rfl (unlinked_verified p) (by decide) hl hp h
theorem reopen_serves (h : serveReopen p s = (u, a)) : Serves (.reopen p) s u a :=
  serves_of_serve rfl (unlinked_reopen p) (by decide) hl hp h
theorem setHold_serves (h : serveSetHold p s = (u, a)) : Serves (.setHold p) s u a :=
  serves_of_serve rfl (unlinked_setHold p) (by decide) hl hp h

end

/-- R10: a request that names an entry by its survey number: refused for 0 and for a number no live entry holds, and
otherwise what it does at the entry. -/
theorem serves_onSurvey {c : Instr} {n : Nat} {act : Fin 64 → Served}
    (h : ∀ u a, s.onSurvey n act = (u, a) → Serves c s u a) :
    (n = 0 → Refuses c s (refusal .badArg)) ∧ (n ≠ 0 → s.unheld n → Refuses c s (refusal .notFound)) ∧
      ∀ {i}, s.holds i n → ∀ {u a}, act i = (u, a) → Serves c s u a := by
  refine ⟨fun hn => h _ _ ?_, fun hn hu => h _ _ (State.onSurvey_unheld _ hn hu), fun hi _ _ hact => h _ _ ?_⟩
  · rw [hn, State.onSurvey_zero]
  · rw [State.onSurvey_holds _ hi, hact]

/-! ## VERIFIED and REOPEN by the state of the entry -/

theorem State.setEntry_setEntry (s : State) (i : Fin 64) (e e' : Entry) :
    (s.setEntry i e).setEntry i e' = s.setEntry i e' := by
  simp [State.setEntry, State.onTable]

theorem State.modifyEntry_modifyEntry (s : State) (i : Fin 64) (f g : Entry → Entry) :
    (s.modifyEntry i f).modifyEntry i g = s.modifyEntry i fun e => g (f e) := by
  rw [State.modifyEntry, State.entry_modifyEntry_same]
  exact s.setEntry_setEntry i _ _

theorem State.sealEntry_of_closing {i : Fin 64} (h : (s.entry i).state = .closing) :
    s.sealEntry i =
      ((s.modifyEntry i fun e => { e with state := .sealed, sealed := some s.clock.driveClock }).openChanged).raise
        .sealed := by
  simp [State.sealEntry, h]

/-- R56, R59: the mark of a CLOSING entry is cleared, and the entry sealed. -/
theorem State.sealEntry_unmark_of_closing {i : Fin 64} (h : (s.entry i).state = .closing) :
    (s.modifyEntry i Entry.unmark).sealEntry i =
      ((s.modifyEntry i fun e =>
        { e with verify := false, state := .sealed, sealed := some s.clock.driveClock }).openChanged).raise .sealed := by
  have hc : ((s.modifyEntry i Entry.unmark).entry i).state = .closing := by
    rw [State.entry_modifyEntry_same]
    exact h
  rw [State.sealEntry_of_closing hc, State.modifyEntry_modifyEntry, State.modifyEntry_clock]
  rfl

section
variable {i : Fin 64} (n : Nat)

theorem State.verifiedAt_badState (h : (s.entry i).state = .sealed ∨ (s.entry i).state = .retiring ∨ s.hasGrant i) :
    s.verifiedAt i n = (s, refusal .badState) := by
  rcases h with h | h | h
  · simp only [State.verifiedAt, h, State.unchanged]
  · simp only [State.verifiedAt, h, State.unchanged]
  · simp only [State.verifiedAt, State.named_iff.mpr h, if_true, State.unchanged]
    split <;> rfl

theorem State.verifiedAt_opened (h : (s.entry i).state = .opened) (hg : ¬ s.hasGrant i) :
    s.verifiedAt i n = (s.modifyEntry i Entry.unmark).servedState i n := by
  simp [State.verifiedAt, h, State.not_named hg]

theorem State.verifiedAt_closing (h : (s.entry i).state = .closing) (hg : ¬ s.hasGrant i) :
    s.verifiedAt i n = ((s.modifyEntry i Entry.unmark).sealEntry i).servedState i n := by
  simp [State.verifiedAt, h, State.not_named hg]

theorem State.reopenAt_closing (h : (s.entry i).state = .closing) :
    s.reopenAt i n = (s.modifyEntry i (Entry.withState .opened)).servedState i n := by
  simp only [State.reopenAt, h]

theorem State.reopenAt_badState (h : (s.entry i).state ≠ .closing) : s.reopenAt i n = (s, refusal .badState) := by
  unfold State.reopenAt
  split
  next hc => exact absurd hc h
  all_goals rfl

end

/-- Settles O28: VERIFIED by the state of the entry and its grants (`State.verifiedAt`), REOPEN by the state alone
(`State.reopenAt`). -/
theorem verifiedAndReopenActOnTheState : Obligations.VerifiedAndReopenActOnTheState := by
  constructor
  · intro s n1 n0 i hs number e answer
    obtain ⟨hzero, hunheld, hserves⟩ := serves_onSurvey (s := s) (n := number)
      (act := fun i => s.verifiedAt i number) (fun _ _ => verified_serves (p := [n1, n0]) hs (by simp))
    refine ⟨hzero, hunheld, fun hi => ?_⟩
    refine ⟨fun h => hserves hi (State.verifiedAt_badState _ h), fun ho hg => hserves hi ?_, fun hc hg => hserves hi ?_⟩
    · rw [State.verifiedAt_opened _ ho hg, State.servedState,
        State.stateAnswer_of (s := s) n1 n0 (by simp) (s.entry_modifyEntry_same i _), State.outstanding_eq_zero hg,
        show (Entry.unmark (s.entry i)).state = .opened from ho]
      rfl
    · rw [State.verifiedAt_closing _ hc hg, State.sealEntry_unmark_of_closing hc, State.servedState,
        State.stateAnswer_of (s := s) (i := i) n1 n0 (by simp)
          ((State.entry_congr (State.raise_table _ _) i).trans
            ((State.entry_openChanged _ i).trans (s.entry_modifyEntry_same i _))),
        State.outstanding_eq_zero hg]
      rfl
  · intro s n1 n0 i hs number e
    obtain ⟨hzero, hunheld, hserves⟩ := serves_onSurvey (s := s) (n := number)
      (act := fun i => s.reopenAt i number) (fun _ _ => reopen_serves (p := [n1, n0]) hs (by simp))
    refine ⟨hzero, hunheld, fun hi => ⟨fun hc => hserves hi ?_, fun hc => hserves hi (State.reopenAt_badState _ hc)⟩⟩
    rw [State.reopenAt_closing _ hc, State.servedState,
      State.stateAnswer_of (s := s) n1 n0 (by simp) (s.entry_modifyEntry_same i _)]
    rfl

/-! ## SET-HOLD -/

/-- R64: the deadline a SET-HOLD records. -/
theorem Entry.extendHold_eq (e : Entry) (candidate : Nat) :
    e.extendHold candidate = { e with hold := some (match e.hold with
      | none => candidate
      | some d => if d < candidate then candidate else d) } := by
  unfold Entry.extendHold
  cases e.hold with
  | none => rfl
  | some d =>
    have hmax : max d candidate = if d < candidate then candidate else d := by split <;> omega
    simp only [hmax]

theorem Entry.extendHold_le (e : Entry) (candidate : Nat) {d : Nat} (h : e.hold = some d) :
    ∃ d', (e.extendHold candidate).hold = some d' ∧ d ≤ d' := by
  simp [Entry.extendHold, h]

/-! ## Records whose hold stands (R63) -/

/-- A record that is live was so before, and its hold deadline was not removed and did not move earlier. -/
def Entry.HoldStands (e e' : Entry) : Prop :=
  e'.state ≠ .free → e.state ≠ .free ∧ ∀ d, e.hold = some d → ∃ d', e'.hold = some d' ∧ d ≤ d'

theorem Entry.holdStands_of_live {e e' : Entry} (hs : e.state ≠ .free) (hh : e'.hold = e.hold) : e.HoldStands e' :=
  fun _ => ⟨hs, fun d hd => ⟨d, hh.trans hd, le_rfl⟩⟩

theorem Entry.holdStands_of_eq {e e' : Entry} (hs : e'.state = e.state) (hh : e'.hold = e.hold) : e.HoldStands e' :=
  fun hlive => Entry.holdStands_of_live (hs ▸ hlive) hh hlive

theorem Entry.HoldStands.refl (e : Entry) : e.HoldStands e := Entry.holdStands_of_eq rfl rfl

theorem Entry.HoldStands.trans {e e' e'' : Entry} (h : e.HoldStands e') (h' : e'.HoldStands e'') :
    e.HoldStands e'' := by
  intro hlive
  obtain ⟨hlive', hlater'⟩ := h' hlive
  obtain ⟨hlive, hlater⟩ := h hlive'
  refine ⟨hlive, fun d hd => ?_⟩
  obtain ⟨d', hd', hle⟩ := hlater d hd
  obtain ⟨d'', hd'', hle'⟩ := hlater' d' hd'
  exact ⟨d'', hd'', hle.trans hle'⟩

theorem Entry.holdStands_cleared (e : Entry) : e.HoldStands Entry.cleared := fun h => absurd rfl h

theorem Entry.holdStands_doneEffect (result n : Nat) (e : Entry) : e.HoldStands (doneEffect result n e) := by
  unfold doneEffect
  split <;> exact Entry.holdStands_of_eq rfl rfl

theorem Entry.holdStands_extendHold (e : Entry) (candidate : Nat) : e.HoldStands (e.extendHold candidate) :=
  fun hs => ⟨hs, fun _ hd => e.extendHold_le candidate hd⟩

theorem Entry.holdStands_settledRecord (named : Bool) (e : Entry) : e.HoldStands (settledRecord named e) := by
  unfold settledRecord
  split
  · exact Entry.holdStands_cleared e
  · split
    · exact Entry.holdStands_of_eq rfl rfl
    · exact .refl e

/-! ## The table as a whole -/

/-- No entry became live, and every hold of an entry that stayed live stands. -/
def State.HoldsStand (s t : State) : Prop := ∀ i, (s.entry i).HoldStands (t.entry i)

theorem State.HoldsStand.of_table_eq (h : t.table = s.table) : s.HoldsStand t := by
  intro i
  rw [State.entry_congr h]
  exact .refl _

theorem State.HoldsStand.refl (s : State) : s.HoldsStand s := .of_table_eq rfl

theorem State.HoldsStand.trans (h : s.HoldsStand t) (h' : t.HoldsStand u) : s.HoldsStand u :=
  fun i => (h i).trans (h' i)

theorem State.HoldsStand.congr_right (ht : u.table = t.table) (h : s.HoldsStand t) : s.HoldsStand u :=
  h.trans (.of_table_eq ht)

theorem State.HoldsStand.setEntry {i : Fin 64} {e : Entry} (h : (s.entry i).HoldStands e) :
    s.HoldsStand (s.setEntry i e) := by
  intro j
  by_cases hj : j = i
  · subst hj
    rwa [State.entry_setEntry_same]
  · rw [s.entry_setEntry_ne hj]
    exact .refl _

theorem State.HoldsStand.modifyEntry {i : Fin 64} {f : Entry → Entry} (h : (s.entry i).HoldStands (f (s.entry i))) :
    s.HoldsStand (s.modifyEntry i f) :=
  .setEntry h

theorem State.holdsStand_clearEntry (s : State) (i : Fin 64) : s.HoldsStand (s.clearEntry i) :=
  .setEntry (Entry.holdStands_cleared _)

theorem State.holdsStand_sealEntry {i : Fin 64} (hs : (s.entry i).state ≠ .free) : s.HoldsStand (s.sealEntry i) := by
  intro j
  by_cases hj : j = i
  · subst hj
    rw [State.entry_sealEntry_same]
    exact Entry.holdStands_of_live hs rfl
  · rw [s.entry_sealEntry_ne hj]
    exact .refl _

theorem State.holdsStand_settleEntry (s : State) (i : Fin 64) : s.HoldsStand (s.settleEntry i) := by
  unfold State.settleEntry
  split
  · exact .refl s
  · split
    next => exact .congr_right (State.raise_table _ _) (s.holdsStand_clearEntry i)
    next hc =>
      split
      · exact .refl s
      · exact State.holdsStand_sealEntry (by simp [hc])
    all_goals exact .refl s

theorem State.holdsStand_removeGrant (s : State) (k : Fin 8) (g : Grant) {f : Entry → Entry}
    (hf : ∀ e : Entry, e.HoldStands (f e)) : s.HoldsStand (s.removeGrant k g f) := by
  have hset : s.HoldsStand (s.setGrant k none) := .of_table_eq (State.setGrant_table ..)
  unfold State.removeGrant
  split
  next i _ =>
    exact .congr_right (State.emptySignal_table _)
      (hset.trans ((State.HoldsStand.modifyEntry (hf _)).trans (State.holdsStand_settleEntry _ i)))
  next => exact hset.congr_right (State.emptySignal_table _)

theorem State.holdsStand_joltMarking (s : State) : s.HoldsStand s.joltMarking := by
  intro i
  rw [State.joltMarking, State.entry_mapEntries]
  split
  · exact Entry.holdStands_of_eq rfl rfl
  · exact .refl _

theorem State.HoldsStand.of_joltedTo (h : s.JoltedTo t) : s.HoldsStand t := by
  rcases h with h | h
  · exact .of_table_eq h
  · exact .congr_right h s.holdsStand_joltMarking

theorem State.HoldsStand.of_settledStart (h : t.table = s.settledStart.table) : s.HoldsStand t := by
  refine .congr_right h fun i => ?_
  rw [s.settledStart_entry]
  exact Entry.holdStands_settledRecord _ _

/-! ## What a transfer and a request do to the table -/

/-- A transfer leaves the Survey Table to its `rest`, where it comes to that. -/
theorem State.transfer_table (s : State) (c : Instr) (dir : Dir) (lost start : Link → Link) (rest : State → State) :
    (s.transfer c dir lost start rest).table = s.table ∨
      ∃ b, b.table = s.table ∧ (s.transfer c dir lost start rest).table = (rest b).table := by
  unfold State.transfer
  split
  · exact .inl rfl
  · split
    · exact .inl (s.event_table rfl)
    · split
      · exact .inl rfl
      · split
        · exact .inl (by simp)
        · split
          · exact .inl rfl
          · exact .inr ⟨(s.onLink start).dozeFollows s.dozeCondition, by simp, State.dozeFollows_table _ _⟩

theorem State.transfer_table_of_rest (s : State) (c : Instr) (dir : Dir) (lost start : Link → Link)
    {rest : State → State} (h : ∀ b, (rest b).table = b.table) :
    (s.transfer c dir lost start rest).table = s.table := by
  rcases s.transfer_table c dir lost start rest with ht | ⟨b, hb, ht⟩
  · exact ht
  · rw [ht, h, hb]

theorem State.refusedWrite_table (s : State) (c : Instr) (v : Verdict) (code : Code) (bytes : List Byte) :
    (s.refusedWrite c v code bytes).table = s.table := by
  unfold State.refusedWrite
  split
  · exact s.transfer_table_of_rest _ _ _ _ fun b => by simp
  · rfl

/-- A request leaves the Survey Table to its owning block, where it reaches that. -/
theorem State.request_table (s : State) (c : Instr) (code : Byte) (payload : List Byte)
    (serve : List Byte → State → Served) :
    (s.request c code payload serve).table = s.table ∨
      ∃ q b, b.table = s.table ∧ (s.request c code payload serve).table = (serve q b).1.table := by
  unfold State.request
  rcases s.transfer_table c _ _ _ _ with ht | ⟨b, hb, ht⟩
  · exact .inl ht
  · rw [ht]
    split
    next q _ => exact .inr ⟨q, b, hb, State.answerWrite_table _ _⟩
    all_goals exact .inl hb

theorem State.request_table_of_serve (s : State) {serve : List Byte → State → Served}
    (h : ∀ p (b : State), (serve p b).1.table = b.table) (c : Instr) (code : Byte) (payload : List Byte) :
    (s.request c code payload serve).table = s.table := by
  rcases s.request_table c code payload serve with ht | ⟨q, b, hb, ht⟩
  · exact ht
  · rw [ht, h, hb]

/-! ## What keeps the holds (R63) -/

/-- An entry that is live before and after keeps its hold, with a deadline no earlier. -/
def State.KeepsHolds (s t : State) : Prop :=
  ∀ (i : Fin 64) (d : Nat), (s.entry i).state ≠ .free → (s.entry i).hold = some d → (t.entry i).state ≠ .free →
    ∃ d', (t.entry i).hold = some d' ∧ d ≤ d'

theorem State.HoldsStand.keepsHolds (h : s.HoldsStand t) : s.KeepsHolds t :=
  fun i d _ hd hlive => (h i hlive).2 d hd

theorem State.keepsHolds_of_table_eq (h : t.table = s.table) : s.KeepsHolds t :=
  (State.HoldsStand.of_table_eq h).keepsHolds

theorem State.KeepsHolds.congr_left (hs : t.table = s.table) (h : t.KeepsHolds u) : s.KeepsHolds u := by
  intro i
  rw [← State.entry_congr hs]
  exact h i

theorem State.KeepsHolds.congr_right (ht : u.table = t.table) (h : s.KeepsHolds t) : s.KeepsHolds u := by
  intro i
  rw [State.entry_congr ht]
  exact h i

/-- A record built in a FREE slot stands for no entry that was live. -/
theorem State.keepsHolds_setEntry_of_free {i : Fin 64} (hi : (s.entry i).state = .free) (e : Entry) :
    s.KeepsHolds (s.setEntry i e) := by
  intro j d hlive hd _
  have hj : j ≠ i := by
    rintro rfl
    exact hlive hi
  exact ⟨d, by rwa [s.entry_setEntry_ne hj], le_rfl⟩

theorem State.KeepsHolds.request {serve : List Byte → State → Served}
    (h : ∀ p (b : State), b.KeepsHolds (serve p b).1) (c : Instr) (code : Byte) (payload : List Byte) :
    s.KeepsHolds (s.request c code payload serve) := by
  rcases s.request_table c code payload serve with ht | ⟨q, b, hb, ht⟩
  · exact State.keepsHolds_of_table_eq ht
  · exact .congr_right ht (.congr_left hb (h q b))

theorem State.HoldsStand.onSurvey {n : Nat} {act : Fin 64 → Served} (h : ∀ i, s.HoldsStand (act i).1) :
    s.HoldsStand (s.onSurvey n act).1 := by
  unfold State.onSurvey
  split
  · exact .refl s
  · split
    · exact .refl s
    · exact h _

/-! ## The requests that move a record -/

theorem State.holdsStand_setParam (s : State) (q : Param) (v : Nat) : s.HoldsStand (s.setParam q v) := by
  cases q
  case mediaLimit => exact fun _ => .refl _
  case unmappedPolicy => exact fun _ => .refl _
  all_goals exact .of_table_eq (by simp [State.setParam])

theorem holdsStand_serveSetParam (p : List Byte) (s : State) : s.HoldsStand (serveSetParam p s).1 := by
  unfold serveSetParam
  split
  · exact .refl s
  · split
    · exact .refl s
    · split
      · exact .refl s
      · exact s.holdsStand_setParam _ _

theorem keepsHolds_serveOpenSurvey (p : List Byte) (s : State) : s.KeepsHolds (serveOpenSurvey p s).1 := by
  unfold serveOpenSurvey
  split
  · exact State.keepsHolds_of_table_eq rfl
  · split
    · exact State.keepsHolds_of_table_eq rfl
    · exact State.keepsHolds_of_table_eq rfl
    next hi =>
      exact .congr_right (State.openChanged_table _) (State.keepsHolds_setEntry_of_free (State.free_of_lowestFree hi) _)

theorem keepsHolds_serveRestore (p : List Byte) (s : State) : s.KeepsHolds (serveRestore p s).1 := by
  unfold serveRestore
  split
  · exact State.keepsHolds_of_table_eq rfl
  · split
    · exact State.keepsHolds_of_table_eq rfl
    · exact State.keepsHolds_of_table_eq rfl
    next hi => exact State.keepsHolds_setEntry_of_free (State.free_of_lowestFree hi) _

theorem holdsStand_serveAddWindow (p : List Byte) (s : State) : s.HoldsStand (serveAddWindow p s).1 := by
  unfold serveAddWindow
  split
  · exact .refl s
  · split
    · exact .refl s
    · refine .onSurvey fun i => ?_
      split
      · exact .refl s
      · exact .modifyEntry (Entry.holdStands_of_eq rfl rfl)

theorem holdsStand_serveDropWindow (p : List Byte) (s : State) : s.HoldsStand (serveDropWindow p s).1 := by
  unfold serveDropWindow
  split
  · exact .refl s
  · refine .onSurvey fun i => ?_
    split
    · exact .refl s
    · exact .refl s
    · exact .modifyEntry (Entry.holdStands_of_eq rfl rfl)

theorem holdsStand_serveRename (p : List Byte) (s : State) : s.HoldsStand (serveRename p s).1 := by
  unfold serveRename
  split
  · exact .refl s
  · split
    · exact .refl s
    · exact .onSurvey fun i => .modifyEntry (Entry.holdStands_of_eq rfl rfl)

theorem holdsStand_serveSetHold (p : List Byte) (s : State) : s.HoldsStand (serveSetHold p s).1 := by
  unfold serveSetHold
  split
  · exact .refl s
  · exact .onSurvey fun i => .modifyEntry (Entry.holdStands_extendHold _ _)

/-! A change of state keeps the hold of an entry that was live. -/

theorem holdsStand_sealAt (s : State) (i : Fin 64) (n : Nat) : s.HoldsStand (s.sealAt i n).1 := by
  unfold State.sealAt
  split
  next ho =>
    have hlive : (s.entry i).state ≠ .free := by simp [ho]
    split
    · exact .modifyEntry (Entry.holdStands_of_live hlive rfl)
    · exact State.holdsStand_sealEntry hlive
  all_goals exact .refl s

theorem holdsStand_verifiedAt (s : State) (i : Fin 64) (n : Nat) : s.HoldsStand (s.verifiedAt i n).1 := by
  have hunmark : s.HoldsStand (s.modifyEntry i Entry.unmark) := .modifyEntry (Entry.holdStands_of_eq rfl rfl)
  unfold State.verifiedAt
  split
  · split
    · exact .refl s
    · exact hunmark
  next hc =>
    split
    · exact .refl s
    · exact hunmark.trans (State.holdsStand_sealEntry (by simp [Entry.unmark, hc]))
  all_goals exact .refl s

theorem holdsStand_reopenAt (s : State) (i : Fin 64) (n : Nat) : s.HoldsStand (s.reopenAt i n).1 := by
  unfold State.reopenAt
  split
  next hc => exact .modifyEntry (Entry.holdStands_of_live (by simp [hc]) rfl)
  all_goals exact .refl s

theorem holdsStand_retireAt (s : State) (i : Fin 64) (n : Nat) : s.HoldsStand (s.retireAt i n).1 := by
  have hwaits (hlive : (s.entry i).state ≠ .free) :
      s.HoldsStand (if s.named i = true then (s.modifyEntry i (Entry.withState .retiring)).openChanged.servedState i n
        else ((s.clearEntry i).openChanged, freedAnswer i n)).1 := by
    split
    · exact .congr_right (State.openChanged_table _) (.modifyEntry (Entry.holdStands_of_live hlive rfl))
    · exact .congr_right (State.openChanged_table _) (s.holdsStand_clearEntry i)
  unfold State.retireAt
  split
  · exact .refl s
  · split
    next => exact s.holdsStand_clearEntry i
    next h => exact hwaits (by simp [h])
    next h => exact hwaits (by simp [h])
    all_goals exact .refl s

theorem holdsStand_serveSeal (p : List Byte) (s : State) : s.HoldsStand (serveSeal p s).1 := by
  unfold serveSeal
  split
  · exact .refl s
  · exact .onSurvey fun i => holdsStand_sealAt s i _

theorem holdsStand_serveVerified (p : List Byte) (s : State) : s.HoldsStand (serveVerified p s).1 := by
  unfold serveVerified
  split
  · exact .refl s
  · exact .onSurvey fun i => holdsStand_verifiedAt s i _

theorem holdsStand_serveReopen (p : List Byte) (s : State) : s.HoldsStand (serveReopen p s).1 := by
  unfold serveReopen
  split
  · exact .refl s
  · exact .onSurvey fun i => holdsStand_reopenAt s i _

theorem holdsStand_serveRetire (p : List Byte) (s : State) : s.HoldsStand (serveRetire p s).1 := by
  unfold serveRetire
  split
  · exact .refl s
  · exact .onSurvey fun i => holdsStand_retireAt s i _

theorem holdsStand_grantOrHold (s : State) (slot : Option (Fin 64)) (window first count : Nat) :
    s.HoldsStand (s.grantOrHold slot window first count).1 := by
  unfold State.grantOrHold
  split
  · exact .refl s
  · exact .refl s
  · have hissued (k : Fin 8) : s.HoldsStand (s.issueGrant k slot window first count) :=
      .of_table_eq (State.issueGrant_table ..)
    cases slot with
    | none => exact hissued _
    | some i => exact (hissued _).trans (.modifyEntry (Entry.holdStands_of_eq rfl rfl))

theorem holdsStand_checkRange (s : State) (first count : Nat) : s.HoldsStand (s.checkRange first count).1 := by
  unfold State.checkRange
  split
  · exact .refl s
  · split
    · exact .refl s
    · split
      · unfold State.checkCovered
        split
        · exact .refl s
        · split
          · exact holdsStand_grantOrHold s _ _ _ _
          · exact .refl s
      · unfold State.checkUncovered
        split
        · exact .refl s
        · split
          · exact .refl s
          · exact holdsStand_grantOrHold s _ _ _ _

theorem holdsStand_serveCheckWrite (p : List Byte) (s : State) : s.HoldsStand (serveCheckWrite p s).1 := by
  unfold serveCheckWrite
  split
  · exact .refl s
  · exact holdsStand_checkRange s _ _

theorem holdsStand_serveWriteDone (p : List Byte) (s : State) : s.HoldsStand (serveWriteDone p s).1 := by
  unfold serveWriteDone
  split
  · exact .refl s
  · split
    · exact .refl s
    · split
      · exact .refl s
      · exact s.holdsStand_removeGrant _ _ (Entry.holdStands_doneEffect _ _)

theorem holdsStand_serveRestart (p : List Byte) (s : State) : s.HoldsStand (serveRestart p s).1 := by
  unfold serveRestart
  split
  · exact .refl s
  · exact .of_settledStart s.restart_table

/-! ## The events and the commands -/

theorem State.HoldsStand.event {f : State → State} (h : s.HoldsStand (f s)) : s.HoldsStand (s.event f) := by
  unfold State.event
  split
  · exact .refl s
  · exact h.congr_right (by simp)

theorem holdsStand_expireGrant (s : State) (k : Fin 8) : s.HoldsStand (s.expireGrant k) := by
  unfold State.expireGrant
  split
  · exact .refl s
  · split
    · exact (State.HoldsStand.of_table_eq (s.raise_table .expired)).trans
        (State.holdsStand_removeGrant _ _ _ fun _ => Entry.holdStands_of_eq rfl rfl)
    · exact .refl s

theorem holdsStand_cold (s : State) (sprs adsel : Bool) (pins : Pins) (n : Nat) (q : List Instr) :
    s.HoldsStand (State.cold sprs adsel pins n q) := by
  intro i
  have hentry : (State.cold sprs adsel pins n q).entry i = Entry.cleared := by simp [State.entry, State.cold]
  rw [hentry]
  exact Entry.holdStands_cleared _

/-- R63: whatever command is taken, no hold of an entry that stays live is removed or shortened. -/
theorem exec_keepsHolds (c : Instr) (h : exec c s = .next t) : s.KeepsHolds t := by
  have event_kept {f : State → State} (hf : (f s).table = s.table) : s.KeepsHolds (s.event f) :=
    State.keepsHolds_of_table_eq (s.event_table hf)
  have request_kept {serve : List Byte → State → Served} (hf : ∀ p (b : State), (serve p b).1.table = b.table)
      (c : Instr) (code : Byte) (p : List Byte) : s.KeepsHolds (s.request c code p serve) :=
    State.keepsHolds_of_table_eq (s.request_table_of_serve hf c code p)
  have request {serve : List Byte → State → Served} (hf : ∀ p (b : State), b.HoldsStand (serve p b).1)
      (c : Instr) (code : Byte) (p : List Byte) : s.KeepsHolds (s.request c code p serve) :=
    .request (fun p b => (hf p b).keepsHolds) c code p
  cases c <;> cases h
  case readStatus => exact request_kept (fun p b => serveReadStatus_table b p) _ _ _
  case clearAttention => exact request_kept (fun p b => serveClearAttention_table b p) _ _ _
  case restart => exact request holdsStand_serveRestart _ _ _
  case readParam => exact request_kept (fun p b => serveReadParam_table b p) _ _ _
  case setParam => exact request holdsStand_serveSetParam _ _ _
  case readClock => exact request_kept (fun p b => serveReadClock_table b p) _ _ _
  case setClock => exact request_kept (fun p b => serveSetClock_table b p) _ _ _
  case openSurvey => exact .request keepsHolds_serveOpenSurvey _ _ _
  case addWindow => exact request holdsStand_serveAddWindow _ _ _
  case dropWindow => exact request holdsStand_serveDropWindow _ _ _
  case findSurvey => exact request_kept (fun p b => serveFindSurvey_table b p) _ _ _
  case findBlock => exact request_kept (fun p b => serveFindBlock_table b p) _ _ _
  case readEntry => exact request_kept (fun p b => serveReadEntry_table b p) _ _ _
  case nextEntry => exact request_kept (fun p b => serveNextEntry_table b p) _ _ _
  case rename => exact request holdsStand_serveRename _ _ _
  -- SEAL, whose name is a keyword of Lean, is the next command in order
  next => exact request holdsStand_serveSeal _ _ _
  case verified => exact request holdsStand_serveVerified _ _ _
  case reopen => exact request holdsStand_serveReopen _ _ _
  case setHold => exact request holdsStand_serveSetHold _ _ _
  case retire => exact request holdsStand_serveRetire _ _ _
  case restore => exact .request keepsHolds_serveRestore _ _ _
  case checkWrite => exact request holdsStand_serveCheckWrite _ _ _
  case writeDone => exact request holdsStand_serveWriteDone _ _ _
  case readGrants => exact request_kept (fun p b => serveReadGrants_table b p) _ _ _
  case readGuard => exact request_kept (fun p b => serveReadGuard_table b p) _ _ _
  case setTarget => exact request_kept (fun p b => serveSetTarget_table b p) _ _ _
  case readMechanism => exact request_kept (fun p b => serveReadMechanism_table b p) _ _ _
  case readGauge => exact request_kept (fun p b => serveReadGauge_table b p) _ _ _
  case setCharge => exact request_kept (fun p b => serveSetCharge_table b p) _ _ _
  case malformed => exact State.keepsHolds_of_table_eq (s.refusedWrite_table _ _ _ _)
  case unknown => exact State.keepsHolds_of_table_eq (s.refusedWrite_table _ _ _ _)
  case emptyWrite => exact State.keepsHolds_of_table_eq (s.transfer_table_of_rest _ _ _ _ fun _ => rfl)
  case addressMatch address dir =>
    split
    · exact State.keepsHolds_of_table_eq rfl
    · exact State.keepsHolds_of_table_eq (s.onBus_table (s.addressByte_table address dir) _)
  case answerFormed => exact event_kept s.answerFormed_table
  case answerRead => exact State.keepsHolds_of_table_eq (s.transfer_table_of_rest _ _ _ _ fun _ => rfl)
  case linkClear => exact State.keepsHolds_of_table_eq (State.event_table (s.setLclr false) rfl)
  case linkClearRelease => exact State.keepsHolds_of_table_eq rfl
  case sampleTimerExpiry => exact event_kept s.sampleExpiry_table
  case setupComplete => exact event_kept (s.setupEnds_table _)
  case readComplete => exact (State.HoldsStand.event (.of_joltedTo (s.joltedTo_readEnds _))).keepsHolds
  case settleTimerExpiry => exact event_kept s.settleExpiry_table
  case grantDeadlineExpiry slot => exact (State.HoldsStand.event (holdsStand_expireGrant s slot)).keepsHolds
  case supplySettleExpiry => exact event_kept (s.phaseExpiry_table s.supplySettles_table _)
  case spinTimeoutExpiry => exact event_kept (s.phaseExpiry_table s.spinTimesOut_table _)
  case unloadTimeExpiry => exact event_kept (s.phaseExpiry_table s.unloads_table _)
  case spinDownExpiry => exact event_kept (s.phaseExpiry_table s.enterCycleWait_table _)
  case cycleDelayExpiry => exact event_kept (s.phaseExpiry_table s.offReached_table _)
  case drdyAsserted =>
    exact State.keepsHolds_of_table_eq ((s.setDrdy true).event_table (s.setDrdy true).drdyRises_table)
  case drdyReleased =>
    exact State.keepsHolds_of_table_eq ((s.setDrdy false).event_table (s.setDrdy false).drdyFalls_table)
  case periodEnd code volts => exact event_kept (s.periodEnds_table code volts)
  case sprsChange present => exact event_kept (s.sprsChanges_table present)
  case dozeTimerExpiry => exact event_kept s.dozeExpiry_table
  case enterRetain => split <;> exact State.keepsHolds_of_table_eq rfl
  case retainedContentsLoss => split <;> exact State.keepsHolds_of_table_eq rfl
  case coldStart sprs adsel =>
    rw [State.coldStart_eq]
    split
    · exact (holdsStand_cold s _ _ _ _ _).keepsHolds
    · exact State.keepsHolds_of_table_eq rfl
  case warmStart sprs adsel =>
    split
    · exact (State.HoldsStand.of_settledStart (s.warmStart_table sprs adsel)).keepsHolds
    · exact State.keepsHolds_of_table_eq rfl
  case secondStep => split <;> exact State.keepsHolds_of_table_eq rfl
  case wakingTransferEnd => exact State.keepsHolds_of_table_eq (s.onBus_table s.wakingEnds_table _)

/-- Settles O29: SET-HOLD by the deadline it records (`Entry.extendHold_eq`), and the hold of a live entry under every
command (`exec_keepsHolds`). -/
theorem setHoldExtendsAndNothingShortens : Obligations.SetHoldExtendsAndNothingShortens := by
  constructor
  · intro s n1 n0 h3 h2 h1 h0 i hs number candidate deadline payload
    obtain ⟨hzero, hunheld, hserves⟩ := serves_onSurvey (s := s) (n := number)
      (act := fun i => s.holdAt i (nat4 h3 h2 h1 h0)) (fun _ _ => setHold_serves (p := payload) hs (by simp [payload]))
    refine ⟨hzero, hunheld, fun hi => hserves hi ?_⟩
    have hrecord : s.modifyEntry i (Entry.extendHold (holdDeadline s.clock.runSeconds (nat4 h3 h2 h1 h0))) =
        s.modifyEntry i fun e => { e with hold := some deadline } :=
      congrArg (s.setEntry i) ((s.entry i).extendHold_eq candidate)
    rw [State.holdAt, hrecord]
    simp only [State.entry_modifyEntry_same]
    rfl
  · exact fun c s t i d h hlive hd hlive' => exec_keepsHolds c h i d hlive hd hlive'

end Sys2Proof.Machine

/-! The Motion Guard's invariant: what each guard state has (`Guard.Stands`), and which changes of the guard keep it. -/

namespace Sys2Proof.Machine

variable {s t u : State} {g : Guard}

/-! ## What each guard state has (R80, R84, R87, R94, R95) -/

/-- R84, R86, R95, R96: the thresholds, the fall count and the counts lie in their ranges. -/
structure Guard.Bounded (g : Guard) : Prop where
  ff : g.ff < g.fi
  nf : 1 ≤ g.nf
  falls : g.falls ≤ 65535
  knocks : g.knocks ≤ 65535
  duration : g.episode.duration ≤ 65535
  episodeFalls : g.episode.falls ≤ 255

/-- R80, R87, R94, R95: the run, the misses, the settle timer and the episode in each guard state. -/
def Guard.Stands (g : Guard) : Prop :=
  match g.state with
  | .calm => g.run = 0 ∧ g.misses < 3 ∧ g.settle = none ∧ g.episode.isOpen = false
  | .watch => g.run < g.nf ∧ g.misses < 3 ∧ g.settle = none ∧ g.episode.isOpen = false
  | .falling => g.run < g.nf ∧ g.misses < 3 ∧ g.settle = none ∧ g.episode.isOpen = true
  | .settle => g.run < g.nf ∧ g.misses < 3 ∧ g.settle.isSome = true ∧ g.episode.isOpen = true
  | .blind => g.run = 0 ∧ g.misses = 3 ∧ g.settle = none ∧ g.episode.isOpen = false

theorem Guard.inOrder_iff : g.inOrder ↔ g.Bounded ∧ g.Stands := by
  constructor
  · rintro ⟨hff, hnf, hrun, hcalm, hblind, hle, hmisses, hsettle, hopen, hfalls, hknocks, hduration, hepisode⟩
    refine ⟨⟨hff, hnf, hfalls, hknocks, hduration, hepisode⟩, ?_⟩
    unfold Guard.Stands
    cases hs : g.state <;> simp only [hs] at hcalm hblind hmisses hsettle hopen <;> simp_all <;> omega
  · rintro ⟨⟨hff, hnf, hfalls, hknocks, hduration, hepisode⟩, hstands⟩
    refine ⟨hff, hnf, ?_⟩
    unfold Guard.Stands at hstands
    cases hs : g.state <;> simp only [hs] at hstands <;> obtain ⟨h1, h2, h3, h4⟩ := hstands <;> simp [*] <;> omega

theorem Guard.not_open_of_calm (h : g.inOrder) (hs : g.state = .calm) : g.episode.isOpen = false := by
  obtain ⟨-, hstands⟩ := Guard.inOrder_iff.mp h
  rw [Guard.Stands, hs] at hstands
  exact hstands.2.2.2

/-! ## Samples missed and samples taken (R80, R88 to R93) -/

theorem Guard.inOrder_missed (h : g.inOrder) (hm : g.misses + 1 < 3) :
    Guard.inOrder { g with misses := g.misses + 1 } := by
  obtain ⟨hb, hs⟩ := Guard.inOrder_iff.mp h
  refine Guard.inOrder_iff.mpr ⟨{ hb with }, ?_⟩
  unfold Guard.Stands at hs ⊢
  cases hg : g.state <;> simp only [hg] at hs ⊢ <;> obtain ⟨hrun, hmisses, hrest⟩ := hs
  case blind => omega
  all_goals exact ⟨hrun, hm, hrest⟩

/-- R95: a closed episode: its duration within its top. -/
theorem Guard.Bounded.closeEpisode (h : g.Bounded) : g.closeEpisode.Bounded := by
  refine { h with duration := ?_, episodeFalls := ?_ }
  · simp only [Guard.closeEpisode, Episode.addFall]
    split
    · exact Nat.min_le_left ..
    · exact h.duration
  · simp only [Guard.closeEpisode, Episode.addFall]
    split <;> exact h.episodeFalls

theorem Guard.closeEpisode_isOpen (g : Guard) : g.closeEpisode.episode.isOpen = false := rfl

theorem Guard.inOrder_blind (h : g.inOrder) : Guard.inOrder { g.goBlind with state := .blind } := by
  obtain ⟨hb, -⟩ := Guard.inOrder_iff.mp h
  exact Guard.inOrder_iff.mpr ⟨{ hb.closeEpisode with }, rfl, rfl, rfl, rfl⟩

/-- R94: the guard settled. -/
theorem Guard.inOrder_settled (h : g.inOrder) (hm : g.misses < 3) :
    Guard.inOrder { g.closeEpisode with settle := none, run := 0, state := .calm } := by
  obtain ⟨hb, -⟩ := Guard.inOrder_iff.mp h
  exact Guard.inOrder_iff.mpr ⟨{ hb.closeEpisode with }, rfl, hm, rfl, rfl⟩

theorem Guard.misses_lt (h : g.inOrder) (hs : g.state ≠ .blind) : g.misses < 3 := by
  obtain ⟨-, -, -, -, -, hle, hmisses, -⟩ := h
  have : g.misses ≠ 3 := fun h3 => hs (hmisses.mp h3)
  omega

/-- R95: a sample noted in the episode moves its peak alone. -/
theorem Episode.note_eq (m2 : Nat) (e : Episode) :
    e.note m2 = { e with peak := if e.isOpen then max e.peak m2 else e.peak } := by
  unfold Episode.note
  split <;> rfl

theorem Guard.Bounded.goodRead (h : g.Bounded) (p : Sample) : (g.goodRead p).Bounded := by
  have hduration := h.duration
  have hfalls := h.episodeFalls
  refine { h with duration := ?_, episodeFalls := ?_ } <;> simp only [Guard.goodRead, Episode.note_eq] <;> assumption

theorem Guard.inOrder_goodRead (h : g.inOrder) (hs : g.state ≠ .blind) (p : Sample) : (g.goodRead p).inOrder := by
  obtain ⟨hb, hstands⟩ := Guard.inOrder_iff.mp h
  refine Guard.inOrder_iff.mpr ⟨hb.goodRead p, ?_⟩
  unfold Guard.Stands at hstands ⊢
  simp only [Guard.goodRead, Episode.note_eq]
  cases hg : g.state <;> simp only [hg] at hstands ⊢
  case blind => exact absurd hg hs
  all_goals simp [hstands]

/-- R81: a good read in BLIND, with the guard back in CALM. -/
theorem Guard.inOrder_seeing (h : g.inOrder) (hs : g.state = .blind) (p : Sample) :
    Guard.inOrder { g.goodRead p with state := .calm } := by
  obtain ⟨hb, hstands⟩ := Guard.inOrder_iff.mp h
  rw [Guard.Stands, hs] at hstands
  obtain ⟨hrun, -, hsettle, hopen⟩ := hstands
  refine Guard.inOrder_iff.mpr ⟨{ hb.goodRead p with }, hrun, ?_, hsettle, ?_⟩
  · exact Nat.zero_lt_succ 2
  · simp only [Guard.goodRead, Episode.note_eq]
    exact hopen

/-- A run that has not reached Nf, in CALM or WATCH (R88, R89). -/
theorem Guard.inOrder_watch (h : g.inOrder) (hs : g.state = .calm ∨ g.state = .watch) {n : Nat} (hn : n < g.nf) :
    Guard.inOrder { g with run := n, state := .watch } := by
  obtain ⟨hb, hstands⟩ := Guard.inOrder_iff.mp h
  refine Guard.inOrder_iff.mpr ⟨{ hb with }, ?_⟩
  rcases hs with hs | hs <;> simp only [Guard.Stands, hs] at hstands ⊢ <;> simp [hstands, hn]

theorem Guard.inOrder_calm (h : g.inOrder) (hs : g.state = .watch) :
    Guard.inOrder { g with run := 0, state := .calm } := by
  obtain ⟨hb, hstands⟩ := Guard.inOrder_iff.mp h
  refine Guard.inOrder_iff.mpr ⟨{ hb with }, ?_⟩
  simp only [Guard.Stands, hs] at hstands ⊢
  simp [hstands]

/-- A run that has not reached Nf, in FALLING or SETTLE (R92, R93). -/
theorem Guard.inOrder_setRun (h : g.inOrder) (hs : g.state = .falling ∨ g.state = .settle) {n : Nat} (hn : n < g.nf) :
    Guard.inOrder { g with run := n } := by
  obtain ⟨hb, hstands⟩ := Guard.inOrder_iff.mp h
  refine Guard.inOrder_iff.mpr ⟨{ hb with }, ?_⟩
  rcases hs with hs | hs <;> simp only [Guard.Stands, hs] at hstands ⊢ <;> simp [hstands, hn]

/-- R93: the settle time begins again. -/
theorem Guard.inOrder_settleAgain (h : g.inOrder) (hs : g.state = .settle) :
    Guard.inOrder { g with settle := some g.settleTime, run := 0 } := by
  obtain ⟨hb, hstands⟩ := Guard.inOrder_iff.mp h
  refine Guard.inOrder_iff.mpr ⟨{ hb with }, ?_⟩
  have := hb.nf
  simp only [Guard.Stands, hs] at hstands ⊢
  simp [hstands]
  omega

theorem Guard.inOrder_knocked (h : g.inOrder) (hs : g.state ≠ .blind) (m2 : Nat) : (g.knocked m2).inOrder := by
  obtain ⟨hb, -⟩ := Guard.inOrder_iff.mp h
  have hmisses := Guard.misses_lt h hs
  exact Guard.inOrder_iff.mpr
    ⟨{ hb with knocks := Nat.min_le_left .., duration := Nat.zero_le _, episodeFalls := Nat.zero_le _ },
      hb.nf, hmisses, rfl, rfl⟩

theorem Guard.inOrder_fallen (h : g.inOrder) (hs : g.state ≠ .blind) (m2 : Nat) : (g.fallen m2).inOrder := by
  obtain ⟨hb, hstands⟩ := Guard.inOrder_iff.mp h
  have hmisses := Guard.misses_lt h hs
  refine Guard.inOrder_iff.mpr
    ⟨{ hb with falls := Nat.min_le_left .., duration := ?_, episodeFalls := ?_ }, hb.nf, hmisses, rfl, ?_⟩ <;>
    simp only [Guard.fallen, Guard.beginFall] <;> split
  · exact hb.duration
  · exact Nat.zero_le _
  · exact Nat.min_le_left ..
  · exact Nat.le_of_ble_eq_true rfl
  next hsettle =>
    rw [Guard.Stands, hsettle] at hstands
    exact hstands.2.2.2
  next => rfl

theorem Guard.inOrder_landed (h : g.inOrder) (hs : g.state = .falling) :
    Guard.inOrder { g.land with state := .settle } := by
  obtain ⟨hb, hstands⟩ := Guard.inOrder_iff.mp h
  rw [Guard.Stands, hs] at hstands
  obtain ⟨-, hmisses, -, hopen⟩ := hstands
  exact Guard.inOrder_iff.mpr ⟨{ hb with duration := Nat.min_le_left .. }, hb.nf, hmisses, rfl, hopen⟩

/-! ## Starts and stops (R98 to R100) -/

/-- A guard start or stop with no episode open. -/
theorem Guard.inOrder_restart (h : g.Bounded) (hopen : g.episode.isOpen = false) (timer : Timer) :
    (g.restart timer).inOrder :=
  Guard.inOrder_iff.mpr ⟨{ h with }, rfl, Nat.zero_lt_succ 2, rfl, hopen⟩

theorem Guard.inOrder_restart_of_calm (h : g.inOrder) (hs : g.state = .calm) (timer : Timer) :
    (g.restart timer).inOrder :=
  Guard.inOrder_restart (Guard.inOrder_iff.mp h).1 (Guard.not_open_of_calm h hs) timer

theorem Guard.inOrder_retain (h : g.inOrder) : g.retain.inOrder :=
  Guard.inOrder_restart (Guard.inOrder_iff.mp h).1.closeEpisode g.closeEpisode_isOpen none

theorem Guard.inOrder_requestRestart (h : g.inOrder) : g.requestRestart.inOrder :=
  Guard.inOrder_restart (Guard.inOrder_iff.mp h).1.closeEpisode g.closeEpisode_isOpen _

/-! ## The parameters and the tick (R84, R86, R176) -/

theorem Guard.inOrder_setNf (h : g.inOrder) {n : Nat} (hn : 1 ≤ n) : (g.setNf n).inOrder := by
  obtain ⟨hb, hstands⟩ := Guard.inOrder_iff.mp h
  refine Guard.inOrder_iff.mpr ⟨{ hb with nf := hn }, ?_⟩
  rw [Guard.setNf_eq]
  unfold Guard.Stands at hstands ⊢
  cases hg : g.state <;> simp only [hg] at hstands ⊢ <;> obtain ⟨hrun, hrest⟩ := hstands <;> exact ⟨by omega, hrest⟩

theorem Guard.inOrder_thresholds (h : g.inOrder) {ff fi : Nat} (hlt : ff < fi) :
    Guard.inOrder { g with ff := ff, fi := fi } := by
  obtain ⟨hb, hstands⟩ := Guard.inOrder_iff.mp h
  exact Guard.inOrder_iff.mpr ⟨{ hb with ff := hlt }, hstands⟩

theorem Guard.inOrder_tick (h : g.inOrder) : g.tick.inOrder := by
  obtain ⟨hb, hstands⟩ := Guard.inOrder_iff.mp h
  refine Guard.inOrder_iff.mpr ⟨{ hb with }, ?_⟩
  unfold Guard.Stands at hstands ⊢
  simp only [Guard.tick]
  cases hg : g.state <;> simp only [hg] at hstands ⊢ <;> simp [hstands, tickTimer]

end Sys2Proof.Machine

/-! The sequencer's invariant: what each sequencer state has (`Sequencer.Stands`), apart from the grants that DRAINING waits
for (`State.Drains`), and how the operations of the sequencer keep it. -/

namespace Sys2Proof.Machine

variable {s t u : State} {q : Sequencer} {critical : Bool}

/-! ## What each sequencer state has (R91, R104, R106, R111) -/

/-- The phase timer, the wait, off demand and the guard in each sequencer state: `critical` is critical-on-battery as the
sequencer last acted on it, `falling` that the guard is in FALLING. -/
def Sequencer.Stands (critical falling : Prop) (q : Sequencer) : Prop :=
  match q.state with
  | .off => q.phase = none ∧ q.waited = 0
  | .powering | .spinning => q.phase.isSome = true ∧ q.waited = 0 ∧ ¬ critical ∧ ¬ falling
  | .ready => q.phase = none ∧ q.waited = 0 ∧ q.target = .on ∧ ¬ critical ∧ ¬ falling
  | .draining => q.phase = none ∧ q.waited = 0 ∧ (q.target = .off ∨ critical) ∧ ¬ falling
  | .unloading | .stopping => q.phase.isSome = true ∧ q.waited = 0
  | .cycleWait => q.phase.isSome = true

/-- R106, R107, R118: the sequencer against its target, its latch and the guard, with critical-on-battery as it last acted on
it. -/
structure State.SeqStanding (critical : Bool) (s : State) : Prop where
  latch : s.seq.target = .on → s.seq.fault = .clear
  stands : s.seq.Stands (critical = true) (s.guard.state = .falling)
  down : s.supply.mode ≠ .retain → s.seq.state = .off → s.seq.target = .on → critical = false → s.guard.permits = false

/-- R112: DRAINING waits for a grant. -/
def State.Drains (s : State) : Prop := s.seq.state = .draining → s.grantsEmpty = false

theorem State.offDemand_iff : s.offDemand = true ↔ s.seq.target = .off ∨ s.critical = true := by
  simp [State.offDemand]

theorem State.offDemand_eq_false_iff : s.offDemand = false ↔ s.seq.target = .on ∧ s.critical = false := by
  cases h : s.seq.target <;> simp [State.offDemand, h]

theorem State.precondition_eq_false_iff (h : s.seq.target = .on → s.seq.fault = .clear) :
    s.precondition = false ↔ (s.seq.target = .on → s.critical = false → s.guard.permits = false) := by
  cases ht : s.seq.target
  · simp [State.precondition_of_target_off ht]
  · simp [State.precondition, State.offDemand, ht, h ht]

theorem State.sequencerInOrder_iff : s.sequencerInOrder ↔ s.SeqStanding s.critical ∧ s.Drains := by
  constructor
  · rintro ⟨hlatch, hstopped, hrising, htimed, hwaited, hready, hdraining, hfalling, hdown⟩
    refine ⟨⟨hlatch, ?_, ?_⟩, fun h => (hdraining h).2⟩
    · unfold Sequencer.Stands
      rw [State.offDemand_eq_false_iff] at hready
      rw [State.offDemand_iff] at hdraining
      cases hs : s.seq.state <;>
        simp only [hs] at hstopped hrising htimed hwaited hready hdraining hfalling <;> simp_all
    · exact fun hm ho => (State.precondition_eq_false_iff hlatch).mp (hdown hm ho)
  · rintro ⟨⟨hlatch, hstands, hdown⟩, hdrains⟩
    rw [← State.precondition_eq_false_iff hlatch] at hdown
    unfold State.Drains at hdrains
    unfold Sequencer.Stands at hstands
    unfold State.sequencerInOrder
    rw [State.offDemand_eq_false_iff, State.offDemand_iff]
    refine ⟨hlatch, ?_⟩
    cases hs : s.seq.state <;> simp only [hs] at hstands hdrains hdown <;> simp_all

/-! ## What the sequencer's order reads -/

theorem State.critical_congr (hlevel : t.supply.level = s.supply.level) (hpresent : t.supply.present = s.supply.present) :
    t.critical = s.critical := by
  simp only [State.critical, hlevel, hpresent]

theorem State.grantsEmpty_congr (h : t.grants = s.grants) : t.grantsEmpty = s.grantsEmpty := by
  simp only [State.grantsEmpty, h]

theorem Guard.permits_congr {g k : Guard} (hstate : k.state = g.state) (hpolicy : k.blindPolicy = g.blindPolicy) :
    k.permits = g.permits := by
  simp only [Guard.permits, hstate, hpolicy]

theorem State.SeqStanding.congr (h : s.SeqStanding critical) (hseq : t.seq = s.seq)
    (hmode : t.supply.mode ≠ .retain → s.supply.mode ≠ .retain) (hstate : t.guard.state = s.guard.state)
    (hpolicy : t.guard.blindPolicy = s.guard.blindPolicy) : t.SeqStanding critical := by
  refine ⟨?_, ?_, fun hm => ?_⟩
  · rw [hseq]
    exact h.latch
  · rw [hseq, hstate]
    exact h.stands
  · rw [hseq, Guard.permits_congr hstate hpolicy]
    exact h.down (hmode hm)

theorem State.Drains.congr (h : s.Drains) (hseq : t.seq = s.seq) (hgrants : t.grants = s.grants) : t.Drains := by
  unfold State.Drains
  rw [hseq, State.grantsEmpty_congr hgrants]
  exact h

/-- Outside OFF the power-up precondition is not asked for. -/
theorem State.SeqStanding.of_up (hlatch : s.seq.target = .on → s.seq.fault = .clear)
    (hstands : s.seq.Stands (critical = true) (s.guard.state = .falling)) (hup : s.seq.state ≠ .off) :
    s.SeqStanding critical :=
  ⟨hlatch, hstands, fun _ h => absurd h hup⟩

/-- With the target OFF there is no power-up. -/
theorem State.SeqStanding.of_target_off (ht : s.seq.target = .off)
    (hstands : s.seq.Stands (critical = true) (s.guard.state = .falling)) : s.SeqStanding critical := by
  refine ⟨fun h => ?_, hstands, fun _ _ h => ?_⟩ <;> rw [ht] at h <;> cases h

/-! ## The way up and the way down (R104 to R116) -/

theorem State.powerUpCheck_eq_or (s : State) :
    (s.powerUpCheck = s ∧ (s.seq.state = .off → s.precondition = false)) ∨
      (s.powerUpCheck = s.onSeq Sequencer.toPowering ∧ s.seq.state = .off ∧ s.precondition = true) := by
  by_cases h : s.seq.state = .off ∧ s.precondition = true
  · exact .inr ⟨State.powerUpCheck_of_precondition h.1 h.2, h⟩
  · exact .inl ⟨State.powerUpCheck_of_not h, fun ho => by simpa using fun hp => h ⟨ho, hp⟩⟩

/-- R107: an evaluation of the precondition leaves no OFF in which it holds. -/
theorem State.seqStanding_powerUpCheck (hlatch : s.seq.target = .on → s.seq.fault = .clear)
    (hstands : s.seq.Stands (s.critical = true) (s.guard.state = .falling)) :
    s.powerUpCheck.SeqStanding s.critical := by
  rcases s.powerUpCheck_eq_or with ⟨he, hp⟩ | ⟨he, -, hp⟩ <;> rw [he]
  · exact ⟨hlatch, hstands, fun _ ho => (State.precondition_eq_false_iff hlatch).mp (hp ho)⟩
  · obtain ⟨-, hcritical, hguard, -⟩ := State.precondition_iff.mp hp
    rw [← State.critical_iff] at hcritical
    refine .of_up hlatch ⟨rfl, rfl, hcritical, fun hf => ?_⟩ nofun
    replace hf : s.guard.state = .falling := hf
    rw [hf] at hguard
    rcases hguard with h | ⟨h, -⟩ <;> cases h

theorem State.drains_powerUpCheck (h : s.Drains) : s.powerUpCheck.Drains := by
  rcases s.powerUpCheck_eq_or with ⟨he, -⟩ | ⟨he, -⟩ <;> rw [he]
  · exact h
  · exact nofun

theorem State.wayDown_eq_or (s : State) :
    s.wayDown = s.onSeq (Sequencer.toUnloading s.demandCause) ∨
      (s.wayDown = s.onSeq (Sequencer.toDraining s.demandCause) ∧ s.grantsEmpty = false) := by
  unfold State.wayDown
  split
  · exact .inl rfl
  next h => exact .inr ⟨rfl, by simpa using h⟩

theorem State.seqStanding_wayDown (hlatch : s.seq.target = .on → s.seq.fault = .clear)
    (hdemand : s.seq.target = .off ∨ critical = true) (hguard : s.guard.state ≠ .falling) :
    s.wayDown.SeqStanding critical := by
  rcases s.wayDown_eq_or with he | ⟨he, -⟩ <;> rw [he]
  · exact .of_up hlatch ⟨rfl, rfl⟩ nofun
  · exact .of_up hlatch ⟨rfl, rfl, hdemand, hguard⟩ nofun

theorem State.drains_wayDown (s : State) : s.wayDown.Drains := by
  rcases s.wayDown_eq_or with he | ⟨he, h⟩ <;> rw [he]
  · exact nofun
  · exact fun _ => h

theorem State.seqStanding_readyReached (hlatch : s.seq.target = .on → s.seq.fault = .clear)
    (hguard : s.guard.state ≠ .falling) : s.readyReached.SeqStanding s.critical := by
  simp only [State.readyReached]
  split
  next h => exact State.seqStanding_wayDown hlatch (State.offDemand_iff.mp h) hguard
  next h =>
    obtain ⟨htarget, hcritical⟩ := State.offDemand_eq_false_iff.mp (Bool.not_eq_true _ ▸ h)
    refine .of_up hlatch ⟨rfl, rfl, htarget, ?_, hguard⟩ nofun
    exact Bool.not_eq_true _ ▸ hcritical

theorem State.drains_readyReached (s : State) : s.readyReached.Drains := by
  simp only [State.readyReached]
  split
  · exact State.drains_wayDown _
  · exact nofun

theorem State.seqStanding_offReached (hlatch : s.seq.target = .on → s.seq.fault = .clear) :
    s.offReached.SeqStanding s.critical :=
  State.seqStanding_powerUpCheck (s := (s.onSeq Sequencer.toOff).raise .mechanism) hlatch ⟨rfl, rfl⟩

theorem State.drains_offReached (s : State) : s.offReached.Drains :=
  State.drains_powerUpCheck (s := (s.onSeq Sequencer.toOff).raise .mechanism) nofun

theorem State.seqStanding_enterCycleWait (hlatch : s.seq.target = .on → s.seq.fault = .clear) :
    s.enterCycleWait.SeqStanding s.critical := by
  simp only [State.enterCycleWait]
  split
  · exact State.seqStanding_offReached (s := s.onSeq Sequencer.toCycleWait) hlatch
  · exact .of_up hlatch rfl nofun

theorem State.drains_enterCycleWait (s : State) : s.enterCycleWait.Drains := by
  simp only [State.enterCycleWait]
  split
  · exact State.drains_offReached _
  · exact nofun

/-- R112: the signal leaves no DRAINING with an empty table. -/
theorem State.drains_emptySignal (s : State) : s.emptySignal.Drains := by
  unfold State.emptySignal
  split
  · exact nofun
  next h => exact fun hd => by simpa using fun he => h ⟨hd, he⟩

theorem State.SeqStanding.emptySignal (h : s.SeqStanding critical) : s.emptySignal.SeqStanding critical := by
  unfold State.emptySignal
  split
  · exact .of_up h.latch ⟨rfl, rfl⟩ nofun
  · exact h

/-- R116: a fall finds the disk down or on its way down. -/
theorem Sequencer.Stands.fallen {c f f' : Prop} (h : q.Stands c f) : q.fallen.Stands c f' := by
  unfold Sequencer.Stands at h
  unfold Sequencer.fallen
  cases hs : q.state <;> simp only [hs] at h ⊢
  case off | unloading | stopping | cycleWait => simpa only [Sequencer.Stands, hs] using h
  all_goals exact ⟨rfl, rfl⟩

theorem Sequencer.fallen_latch (q : Sequencer) : q.fallen.target = q.target ∧ q.fallen.fault = q.fault := by
  unfold Sequencer.fallen
  split <;> exact ⟨rfl, rfl⟩

theorem Sequencer.fallen_not_draining (q : Sequencer) : q.fallen.state ≠ .draining := by
  cases h : q.state <;> simp [Sequencer.fallen, h, Sequencer.toUnloading, Sequencer.toStopping, Sequencer.spinsDown]

theorem Sequencer.fallen_off {q : Sequencer} (h : q.fallen.state = .off) : q.state = .off := by
  cases hs : q.state <;> simp [Sequencer.fallen, hs, Sequencer.toUnloading, Sequencer.toStopping, Sequencer.spinsDown] at h ⊢

/-! ## Critical-on-battery (R106) -/

@[simp] theorem State.critical_leaveDoze (s : State) : s.leaveDoze.critical = s.critical := rfl

@[simp] theorem State.critical_wakeForPowerUp (s : State) : s.wakeForPowerUp.critical = s.critical := by
  unfold State.wakeForPowerUp
  split <;> rfl

theorem State.critical_of_supply (h : t.supply = s.supply) : t.critical = s.critical :=
  State.critical_congr (congrArg Supply.level h) (congrArg Supply.present h)

/-- What the sequencer does on critical-on-battery does not move it. -/
theorem State.critical_handCritical (s : State) (was : Bool) : (s.handCritical was).critical = s.critical := by
  unfold State.handCritical
  split
  · split
    · exact State.critical_of_supply (State.wayDown_supply s)
    all_goals rfl
  · split
    · split
      · split <;> rfl
      · exact (State.critical_of_supply (State.powerUpCheck_supply _)).trans s.critical_wakeForPowerUp
      all_goals rfl
    · rfl

/-- R106: critical-on-battery arising. -/
theorem State.SeqStanding.handCritical_arising (h : s.SeqStanding false) (hc : s.critical = true) :
    (s.handCritical false).SeqStanding true := by
  have hstands := h.stands
  unfold Sequencer.Stands at hstands
  cases hs : s.seq.state <;> simp only [hs] at hstands
  case ready =>
    rw [State.handCritical_arising_ready hc hs]
    exact State.seqStanding_wayDown h.latch (.inr rfl) hstands.2.2.2.2
  case powering | spinning =>
    rw [State.handCritical_arising_powering hc (by simp [hs])]
    exact .of_up h.latch ⟨rfl, rfl⟩ nofun
  all_goals
    rw [State.handCritical_arising_other hc (by simp [hs]) (by simp [hs]) (by simp [hs])]
    refine ⟨h.latch, ?_, nofun⟩
    simp only [Sequencer.Stands, hs]
    simp [hstands]

/-- R106, R107, R157: critical-on-battery ceasing. -/
theorem State.SeqStanding.handCritical_ceasing (h : s.SeqStanding true) (hc : s.critical = false) :
    (s.handCritical true).SeqStanding false := by
  have hstands := h.stands
  unfold Sequencer.Stands at hstands
  cases hs : s.seq.state <;> simp only [hs] at hstands
  case draining =>
    obtain ⟨hphase, hwaited, -, hguard⟩ := hstands
    rw [State.handCritical_ceasing_draining hc hs]
    split
    next hdemand =>
      rw [State.offDemand_iff, hc] at hdemand
      refine .of_up h.latch ?_ (by simp [hs])
      simp only [Sequencer.Stands, hs]
      exact ⟨hphase, hwaited, hdemand, hguard⟩
    next hdemand =>
      obtain ⟨htarget, -⟩ := State.offDemand_eq_false_iff.mp (Bool.not_eq_true _ ▸ hdemand)
      exact .of_up h.latch ⟨rfl, rfl, htarget, nofun, hguard⟩ nofun
  case off =>
    rw [State.handCritical_ceasing_off hc hs, ← hc, ← s.critical_wakeForPowerUp]
    refine State.seqStanding_powerUpCheck ?_ ?_ <;> rw [State.wakeForPowerUp_seq]
    · exact h.latch
    · simp only [Sequencer.Stands, hs]
      exact hstands
  all_goals
    rw [State.handCritical_ceasing_other hc (by simp [hs]) (by simp [hs])]
    refine .of_up h.latch ?_ (by simp [hs])
    simp only [Sequencer.Stands, hs]
    simp_all

/-- R106: the sequencer acts on critical-on-battery as it now is. -/
theorem State.SeqStanding.handCritical {was : Bool} (h : s.SeqStanding was) :
    (s.handCritical was).SeqStanding (s.handCritical was).critical := by
  rw [s.critical_handCritical]
  cases hw : was <;> cases hc : s.critical <;> rw [hw] at h
  · rwa [State.handCritical_of_eq hc]
  · exact h.handCritical_arising hc
  · exact h.handCritical_ceasing hc
  · rwa [State.handCritical_of_eq hc]

theorem State.Drains.handCritical (h : s.Drains) (was : Bool) : (s.handCritical was).Drains := by
  unfold State.handCritical
  split
  · split
    · exact s.drains_wayDown
    · exact nofun
    · exact nofun
    all_goals exact h
  · split
    · split
      · split
        · exact h
        · exact nofun
      · exact State.drains_powerUpCheck (h.congr (by simp) (by simp))
      all_goals exact h
    · exact h

/-- An evaluation of the level, from a state in which the sequencer has acted on critical-on-battery as it was. -/
theorem State.SeqStanding.evaluate {was : Bool} (h : s.SeqStanding was) (empty : Bool) :
    (s.evaluate was empty).SeqStanding (s.evaluate was empty).critical := by
  rw [State.evaluate_eq_handCritical]
  exact State.SeqStanding.handCritical (h.congr rfl id rfl rfl)

theorem State.Drains.evaluate (h : s.Drains) (was empty : Bool) : (s.evaluate was empty).Drains := by
  rw [State.evaluate_eq_handCritical]
  exact State.Drains.handCritical (h.congr (t := s.judged empty) rfl rfl) was

/-! ## SET-TARGET (R105) -/

theorem Sequencer.aim_eq (target : Target) (q : Sequencer) :
    q.aim target = { q with target := target, fault := if target = .on then .clear else q.fault } := by
  cases target <;> rfl

theorem State.SeqStanding.setTarget (h : s.SeqStanding s.critical) (target : Target) :
    (s.setTarget target).SeqStanding s.critical := by
  have hlatch : (s.seq.aim target).target = .on → (s.seq.aim target).fault = .clear := by
    rw [Sequencer.aim_eq]
    exact fun ht => if_pos ht
  have hstands := h.stands
  unfold Sequencer.Stands at hstands
  have hstate : (s.seq.aim target).state = s.seq.state := by rw [Sequencer.aim_eq]
  unfold State.setTarget State.actOnTarget
  rw [State.onSeq_seq, hstate]
  cases hs : s.seq.state <;> simp only [hs] at hstands ⊢
  case off =>
    refine State.seqStanding_powerUpCheck (s := s.onSeq (Sequencer.aim target)) hlatch ?_
    simpa only [Sequencer.Stands, State.onSeq_seq, Sequencer.aim_eq, hs] using hstands
  case ready =>
    obtain ⟨hphase, hwaited, -, hcritical, hguard⟩ := hstands
    split
    next ht => exact State.seqStanding_wayDown hlatch (.inl ht) hguard
    next ht =>
      have hon : (s.seq.aim target).target = .on := by
        cases hv : (s.seq.aim target).target
        · exact absurd hv ht
        · rfl
      refine .of_up hlatch ?_ (by simp [hstate, hs])
      unfold Sequencer.Stands
      rw [State.onSeq_seq, hstate, hs]
      refine ⟨?_, ?_, hon, hcritical, hguard⟩ <;> rwa [Sequencer.aim_eq]
  case draining =>
    obtain ⟨hphase, hwaited, -, hguard⟩ := hstands
    split
    next hdemand =>
      refine .of_up hlatch ?_ (by simp [hstate, hs])
      unfold Sequencer.Stands
      rw [State.onSeq_seq, hstate, hs]
      refine ⟨?_, ?_, State.offDemand_iff.mp hdemand, hguard⟩ <;> rwa [Sequencer.aim_eq]
    next hdemand =>
      obtain ⟨htarget, hcritical⟩ := State.offDemand_eq_false_iff.mp (Bool.not_eq_true _ ▸ hdemand)
      exact .of_up hlatch ⟨rfl, rfl, htarget, Bool.not_eq_true _ ▸ hcritical, hguard⟩ nofun
  all_goals
    refine .of_up hlatch ?_ (by simp [hstate, hs])
    simpa only [Sequencer.Stands, State.onSeq_seq, State.onSeq_guard, Sequencer.aim_eq, hs] using hstands

theorem State.Drains.setTarget (h : s.Drains) (target : Target) : (s.setTarget target).Drains := by
  have haimed : (s.onSeq (Sequencer.aim target)).Drains := by
    unfold State.Drains
    rw [State.onSeq_seq, Sequencer.aim_eq]
    exact h
  unfold State.setTarget State.actOnTarget
  split
  · exact State.drains_powerUpCheck haimed
  · split
    · exact State.drains_wayDown _
    · exact haimed
  · split
    · exact haimed
    · exact nofun
  all_goals exact haimed

end Sys2Proof.Machine

/-! Steps of the Motion Guard and the Mechanism Sequencer (`State.MotionStep`): what composes them, DOZE, the level, the grants and
the guard's events. -/

namespace Sys2Proof.Machine

variable {s t u : State}

/-! ## A step of the guard and the sequencer -/

/-- The guard stays in order, and so does the sequencer, but for the grants that DRAINING waits for. -/
structure State.LooseStep (s t : State) : Prop where
  guard : s.guardInOrder → t.guardInOrder
  standing : s.guardInOrder → s.SeqStanding s.critical → t.SeqStanding t.critical

/-- The guard and the sequencer stay in order. -/
structure State.MotionStep (s t : State) : Prop extends State.LooseStep s t where
  drains : s.guardInOrder → s.Drains → t.Drains

theorem State.MotionStep.sequencerInOrder (h : s.MotionStep t) (hg : s.guardInOrder) (hs : s.sequencerInOrder) :
    t.sequencerInOrder := by
  obtain ⟨hstanding, hdrains⟩ := State.sequencerInOrder_iff.mp hs
  exact State.sequencerInOrder_iff.mpr ⟨h.standing hg hstanding, h.drains hg hdrains⟩

theorem State.guardInOrder_congr (hguard : t.guard = s.guard) (hmode : t.supply.mode = s.supply.mode)
    (h : s.guardInOrder) : t.guardInOrder := by
  unfold State.guardInOrder
  rwa [hguard, hmode]

/-- In RUN the guard may be in any state. -/
theorem State.guardInOrder_of_run (hm : s.supply.mode = .run) (h : s.guard.inOrder) : s.guardInOrder :=
  ⟨h, fun h' => absurd hm h'⟩

theorem State.LooseStep.of_eq (hguard : t.guard = s.guard) (hseq : t.seq = s.seq)
    (hmode : t.supply.mode = s.supply.mode) (hcritical : t.critical = s.critical) : s.LooseStep t := by
  refine ⟨State.guardInOrder_congr hguard hmode, fun _ h => ?_⟩
  rw [hcritical]
  exact h.congr hseq (fun hm => hmode ▸ hm) (by rw [hguard]) (by rw [hguard])

theorem State.MotionStep.of_eq (hguard : t.guard = s.guard) (hseq : t.seq = s.seq) (hgrants : t.grants = s.grants)
    (hmode : t.supply.mode = s.supply.mode) (hcritical : t.critical = s.critical) : s.MotionStep t :=
  ⟨.of_eq hguard hseq hmode hcritical, fun _ h => h.congr hseq hgrants⟩

theorem State.MotionStep.refl (s : State) : s.MotionStep s := .of_eq rfl rfl rfl rfl rfl

theorem State.LooseStep.trans (h : s.LooseStep t) (h' : t.LooseStep u) : s.LooseStep u :=
  ⟨h'.guard ∘ h.guard, fun hg hs => h'.standing (h.guard hg) (h.standing hg hs)⟩

theorem State.MotionStep.trans (h : s.MotionStep t) (h' : t.MotionStep u) : s.MotionStep u :=
  ⟨h.toLooseStep.trans h'.toLooseStep, fun hg hd => h'.drains (h.guard hg) (h.drains hg hd)⟩

/-- After and before what neither block reads. -/
theorem State.MotionStep.congr_left (h : t.MotionStep u) (hguard : t.guard = s.guard) (hseq : t.seq = s.seq)
    (hgrants : t.grants = s.grants) (hsupply : t.supply = s.supply) : s.MotionStep u :=
  .trans (.of_eq hguard hseq hgrants (congrArg Supply.mode hsupply) (State.critical_of_supply hsupply)) h

theorem State.MotionStep.congr_right (h : s.MotionStep t) (hguard : u.guard = t.guard) (hseq : u.seq = t.seq)
    (hgrants : u.grants = t.grants) (hsupply : u.supply = t.supply) : s.MotionStep u :=
  h.trans (.of_eq hguard hseq hgrants (congrArg Supply.mode hsupply) (State.critical_of_supply hsupply))

/-- The doze timer is not read. -/
theorem State.motionStep_dozeFollows (s : State) (held : Bool) : s.MotionStep (s.dozeFollows held) := by
  refine .of_eq (by simp) (by simp) (by simp) ?_ ?_
  · rw [State.supply_dozeFollows]
  · exact State.critical_congr (by rw [State.supply_dozeFollows]) (by rw [State.supply_dozeFollows])

theorem State.MotionStep.event {f : State → State} (h : s.supply.mode ≠ .retain → s.MotionStep (f s)) :
    s.MotionStep (s.event f) := by
  unfold State.event
  split
  · exact .refl s
  next hm => exact (h hm).trans (State.motionStep_dozeFollows _ _)

/-- What stands outside RUN: CALM, with no sampling and no transfer (R98, R99). -/
theorem State.stopped_of_not_run (h : s.guardInOrder) (hm : s.supply.mode ≠ .run) :
    s.guard.state = .calm ∧ s.guard.sampleTimer = none ∧ s.guard.transfer = .none := h.2 hm

/-- An event that happens only in RUN. -/
theorem State.MotionStep.of_run (hrun : s.supply.mode = .run → s.MotionStep t)
    (hidle : s.guard.state = .calm → s.guard.sampleTimer = none → s.guard.transfer = .none → t = s) : s.MotionStep t := by
  by_cases hm : s.supply.mode = .run
  · exact hrun hm
  · have hstay (h : s.guardInOrder) : t = s := by
      obtain ⟨hcalm, hsample, htransfer⟩ := State.stopped_of_not_run h hm
      exact hidle hcalm hsample htransfer
    exact ⟨⟨fun h => (hstay h).symm ▸ h, fun h hs => (hstay h).symm ▸ hs⟩, fun h hd => (hstay h).symm ▸ hd⟩

/-! ## DOZE (R98, R157) -/

/-- R98: leaving DOZE finds the guard in CALM and leaves it there. -/
theorem State.motionStep_leaveDoze (hm : s.supply.mode = .doze) : s.MotionStep s.leaveDoze := by
  have hcalm (h : s.guardInOrder) : s.guard.state = .calm := (State.stopped_of_not_run h (by simp [hm])).1
  refine ⟨⟨fun h => ?_, fun h hs => ?_⟩, fun _ hd => hd⟩
  · exact State.guardInOrder_of_run rfl (Guard.inOrder_restart_of_calm h.1 (hcalm h) _)
  · exact hs.congr rfl (fun _ => by simp [hm]) (hcalm h).symm rfl

theorem State.motionStep_enterDoze (h : s.dozeCondition = true) : s.MotionStep s.enterDoze := by
  obtain ⟨hm, -, -, -, hcalm, -⟩ := State.dozeCondition_iff.mp h
  refine ⟨⟨fun h => ⟨?_, fun _ => ⟨rfl, rfl, rfl⟩⟩, fun h hs => ?_⟩, fun _ hd => hd⟩
  · exact Guard.inOrder_restart_of_calm h.1 hcalm _
  · exact hs.congr rfl (fun _ => by simp [hm]) hcalm.symm rfl

theorem State.motionStep_wakeForPowerUp (s : State) : s.MotionStep s.wakeForPowerUp := by
  unfold State.wakeForPowerUp
  split
  next h => exact State.motionStep_leaveDoze h.1
  · exact .refl s

/-! ## The level (R106, R165) -/

theorem State.guardInOrder_handCritical (was : Bool) (h : s.guardInOrder) : (s.handCritical was).guardInOrder := by
  unfold State.handCritical
  split
  · split <;> exact State.guardInOrder_congr (by simp) (by simp) h
  · split
    · split
      · split <;> exact State.guardInOrder_congr (by simp) (by simp) h
      · exact State.guardInOrder_congr (by simp) (by simp) (s.motionStep_wakeForPowerUp.guard h)
      all_goals exact h
    · exact h

theorem State.guardInOrder_evaluate (was empty : Bool) (h : s.guardInOrder) : (s.evaluate was empty).guardInOrder := by
  rw [State.evaluate_eq_handCritical]
  exact State.guardInOrder_handCritical was (State.guardInOrder_congr (t := s.judged empty) rfl rfl h)

/-- An evaluation after a change that reaches neither the guard nor the sequencer but through the level. -/
theorem State.MotionStep.evaluate (hguard : t.guard = s.guard) (hseq : t.seq = s.seq) (hgrants : t.grants = s.grants)
    (hmode : t.supply.mode = s.supply.mode) (empty : Bool) : s.MotionStep (t.evaluate s.critical empty) where
  guard h := State.guardInOrder_evaluate _ _ (State.guardInOrder_congr hguard hmode h)
  standing _ h := State.SeqStanding.evaluate
    (h.congr hseq (fun hm => hmode ▸ hm) (by rw [hguard]) (by rw [hguard])) empty
  drains _ h := State.Drains.evaluate (h.congr hseq hgrants) _ _

theorem State.motionStep_openChanged (s : State) : s.MotionStep s.openChanged := .evaluate rfl rfl rfl rfl false

/-! ## Custody and grants -/

theorem State.motionStep_setEntry (s : State) (i : Fin 64) (e : Entry) : s.MotionStep (s.setEntry i e) :=
  .of_eq rfl rfl rfl rfl rfl

theorem State.motionStep_modifyEntry (s : State) (i : Fin 64) (f : Entry → Entry) : s.MotionStep (s.modifyEntry i f) :=
  .of_eq rfl rfl rfl rfl rfl

theorem State.motionStep_raise (s : State) (c : Cause) : s.MotionStep (s.raise c) := .of_eq rfl rfl rfl rfl rfl

theorem State.motionStep_sealEntry (s : State) (i : Fin 64) : s.MotionStep (s.sealEntry i) := by
  have hsealed := (s.motionStep_modifyEntry i fun e =>
    { e with state := .sealed, sealed := some s.clock.driveClock }).trans (State.motionStep_openChanged _)
  simp only [State.sealEntry]
  split
  · exact hsealed.trans (State.motionStep_raise _ _)
  · exact hsealed

theorem State.motionStep_settleEntry (s : State) (i : Fin 64) : s.MotionStep (s.settleEntry i) := by
  unfold State.settleEntry
  split
  · exact .refl s
  · split
    · exact .of_eq rfl rfl rfl rfl rfl
    · split
      · exact .refl s
      · exact s.motionStep_sealEntry i
    all_goals exact .refl s

theorem State.looseStep_emptySignal (s : State) : s.LooseStep s.emptySignal where
  guard := State.guardInOrder_congr (by simp) (by simp)
  standing _ h := by
    rw [State.critical_of_supply (State.emptySignal_supply s)]
    exact h.emptySignal

/-- R46, R47: the removal of a grant ends with the signal of an empty table. -/
theorem State.motionStep_removeGrant (s : State) (k : Fin 8) (g : Grant) (f : Entry → Entry) :
    s.MotionStep (s.removeGrant k g f) := by
  have hremoved : s.LooseStep (s.setGrant k none) := .of_eq rfl rfl rfl rfl
  simp only [State.removeGrant]
  split
  next i _ =>
    have hsettled := ((s.setGrant k none).motionStep_modifyEntry i f).trans (State.motionStep_settleEntry _ i)
    exact ⟨hremoved.trans (hsettled.toLooseStep.trans (State.looseStep_emptySignal _)), fun _ _ => State.drains_emptySignal _⟩
  next => exact ⟨hremoved.trans (State.looseStep_emptySignal _), fun _ _ => State.drains_emptySignal _⟩

theorem State.motionStep_expireGrant (s : State) (k : Fin 8) : s.MotionStep (s.expireGrant k) := by
  unfold State.expireGrant
  split
  · exact .refl s
  · split
    · exact (s.motionStep_raise .expired).trans (State.motionStep_removeGrant _ _ _ _)
    · exact .refl s

/-- R40: a grant issued leaves the table with a grant. -/
theorem State.motionStep_issueGrant (s : State) (k : Fin 8) (slot : Option (Fin 64)) (window first count : Nat) :
    s.MotionStep (s.issueGrant k slot window first count) := by
  refine ⟨.of_eq rfl rfl rfl rfl, fun _ _ _ => ?_⟩
  rw [← Bool.not_eq_true, State.grantsEmpty_iff]
  intro h
  have hk := h k
  rw [State.grant_issueGrant_same] at hk
  cases hk

/-! ## The guard's events, in RUN (R77 to R94) -/

@[simp] theorem State.guardEnters_guard (s : State) (g : GuardState) :
    (s.guardEnters g).guard = { s.guard with state := g } := by
  simp only [State.guardEnters]
  split <;> simp

theorem State.drains_guardEnters (h : s.Drains) (g : GuardState) : (s.guardEnters g).Drains := by
  have hset : (s.onGuard fun k => { k with state := g }).Drains := h.congr rfl rfl
  simp only [State.guardEnters]
  split
  · exact hset
  · exact State.drains_powerUpCheck hset

/-- R87, R107: with each change of guard state the precondition is evaluated. -/
theorem State.SeqStanding.guardEnters (h : s.SeqStanding s.critical) {g : GuardState} (hg : g ≠ .falling) :
    (s.guardEnters g).SeqStanding s.critical := by
  simp only [State.guardEnters]
  split
  next hsame => exact h.congr rfl id hsame.symm rfl
  next hchange =>
    refine State.seqStanding_powerUpCheck (s := s.onGuard fun k => { k with state := g }) h.latch ?_
    have hstands := h.stands
    unfold Sequencer.Stands at hstands ⊢
    simp only [State.onGuard_seq]
    cases hs : s.seq.state <;> simp only [hs] at hstands ⊢ <;> simp_all [State.critical]

/-- R87, R107: the guard enters a state other than FALLING, after a change of it that keeps the state it was in. -/
theorem State.MotionStep.guardEnters {g : GuardState} (hm : s.supply.mode = .run) (hg : g ≠ .falling)
    (hguard : s.guard.inOrder → Guard.inOrder { t.guard with state := g })
    (hstate : t.guard.state = s.guard.state) (hpolicy : t.guard.blindPolicy = s.guard.blindPolicy)
    (hseq : t.seq = s.seq) (hgrants : t.grants = s.grants) (hsupply : t.supply = s.supply) :
    s.MotionStep (t.guardEnters g) := by
  have hcritical := State.critical_of_supply hsupply
  refine ⟨⟨fun h => State.guardInOrder_of_run ?_ ?_, fun _ h => ?_⟩, fun _ h => ?_⟩
  · rw [State.guardEnters_supply, hsupply, hm]
  · rw [State.guardEnters_guard]
    exact hguard h.1
  · rw [State.critical_of_supply (State.guardEnters_supply t g)]
    refine State.SeqStanding.guardEnters ?_ hg
    rw [hcritical]
    exact h.congr hseq (fun hm => hsupply ▸ hm) hstate hpolicy
  · exact State.drains_guardEnters (h.congr hseq hgrants) g

/-- A change of the guard that keeps the state it is in. -/
theorem State.MotionStep.onGuard {f : Guard → Guard} (hm : s.supply.mode = .run)
    (hguard : s.guard.inOrder → (f s.guard).inOrder) (hstate : (f s.guard).state = s.guard.state)
    (hpolicy : (f s.guard).blindPolicy = s.guard.blindPolicy) : s.MotionStep (s.onGuard f) where
  guard h := State.guardInOrder_of_run hm (hguard h.1)
  standing _ h := h.congr rfl id hstate hpolicy
  drains _ h := h

theorem State.motionStep_missSample (hm : s.supply.mode = .run) : s.MotionStep s.missSample := by
  unfold State.missSample
  split
  · exact .refl s
  · split
    · exact .guardEnters hm nofun Guard.inOrder_blind rfl rfl rfl rfl rfl
    next hmisses => exact .onGuard hm (fun h => Guard.inOrder_missed h (Nat.not_le.mp hmisses)) rfl rfl

theorem State.motionStep_transferFailed (hm : s.supply.mode = .run) : s.MotionStep s.transferFailed :=
  .trans (.onGuard hm id rfl rfl) (State.motionStep_missSample hm)

theorem State.motionStep_sampleExpiry (s : State) : s.MotionStep s.sampleExpiry := by
  refine .of_run (fun hm => ?_) fun _ hsample _ => by simp [State.sampleExpiry, timerEnded, hsample]
  have hreload : s.MotionStep (s.onGuard fun g => { g with sampleTimer := some g.samplePeriod }) :=
    .onGuard hm id rfl rfl
  simp only [State.sampleExpiry]
  split
  · exact .refl s
  · split
    · exact hreload.trans (State.motionStep_missSample hm)
    · exact hreload.trans (State.motionStep_missSample hm)
    · exact hreload.trans (.onGuard hm id rfl rfl)

theorem State.motionStep_setupEnds (s : State) (good : Bool) : s.MotionStep (s.setupEnds good) := by
  refine .of_run (fun hm => ?_) fun _ _ htransfer => by simp [State.setupEnds, htransfer]
  unfold State.setupEnds
  split
  · exact .refl s
  · split
    · exact .onGuard hm id rfl rfl
    · exact State.motionStep_transferFailed hm

theorem State.motionStep_settleExpiry (s : State) : s.MotionStep s.settleExpiry := by
  refine .of_run (fun hm => ?_) fun hcalm _ _ => by simp [State.settleExpiry, hcalm]
  unfold State.settleExpiry
  split
  next h =>
    refine .guardEnters hm nofun (fun hg => ?_) rfl rfl rfl rfl rfl
    exact Guard.inOrder_settled hg (Guard.misses_lt hg (by simp [h.2]))
  · exact .refl s

theorem State.motionStep_knock (hm : s.supply.mode = .run) (hs : s.guard.state ≠ .blind) (m2 : Nat) :
    s.MotionStep (s.knock m2) := by
  have hguard : s.joltMarking.guard = s.guard := s.joltMarking_guard
  refine .guardEnters hm nofun (fun h => ?_) ?_ ?_ (by simp) (by simp) (by simp)
  · simpa [Guard.knocked] using Guard.inOrder_knocked h hs m2
  · simp
  · simp

/-- R91, R116: a fall finds the disk down or on its way down. -/
theorem State.motionStep_enterFalling (hm : s.supply.mode = .run) (hs : s.guard.state ≠ .blind) (m2 : Nat) :
    s.MotionStep (s.enterFalling m2) := by
  obtain ⟨htarget, hfault⟩ := s.seq.fallen_latch
  have hfallen : ((s.joltMarking.onSeq Sequencer.fallen).onGuard (Guard.fallen m2)).MotionStep (s.enterFalling m2) := by
    rw [State.enterFalling_eq]
    exact State.motionStep_raise _ _
  refine .trans ⟨⟨fun h => ?_, fun _ h => ⟨?_, ?_, fun _ _ _ _ => rfl⟩⟩, fun _ _ h => ?_⟩ hfallen
  · refine State.guardInOrder_of_run (by simpa using hm) ?_
    simpa using Guard.inOrder_fallen h.1 hs m2
  · simpa [htarget, hfault] using h.latch
  · simpa [State.critical] using h.stands.fallen
  · exact absurd h (by simpa using s.seq.fallen_not_draining)

theorem State.motionStep_setRun (hm : s.supply.mode = .run) {n : Nat}
    (hin : s.guard.inOrder → Guard.inOrder { s.guard with run := n }) : s.MotionStep (s.setRun n) :=
  .onGuard hm hin rfl rfl

theorem State.motionStep_lowSample (hm : s.supply.mode = .run) (hs : s.guard.state ≠ .blind) {m2 : Nat}
    {next : GuardState} (hnext : next ≠ .falling) (hin : s.guard.inOrder → s.guard.run + 1 < s.guard.nf →
      Guard.inOrder { s.guard with run := s.guard.run + 1, state := next }) : s.MotionStep (s.lowSample m2 next) := by
  unfold State.lowSample
  split
  · exact State.motionStep_enterFalling hm hs m2
  next h => exact .guardEnters hm hnext (fun hg => hin hg (Nat.not_le.mp h)) rfl rfl rfl rfl rfl

theorem State.motionStep_sampleInCalm (hm : s.supply.mode = .run) (hs : s.guard.state = .calm) (m2 : Nat)
    (c : SampleClass) : s.MotionStep (s.sampleInCalm m2 c) := by
  cases c
  case low =>
    have hzero (h : s.guard.inOrder) : s.guard.run = 0 := h.2.2.2.1 hs
    refine (State.motionStep_setRun (n := 0) hm fun h => ?_).trans ?_
    · rw [← hzero h]
      exact h
    · exact State.motionStep_lowSample (s := s.setRun 0) (next := .watch) hm (by simp [State.setRun, hs]) nofun
        fun h hn => Guard.inOrder_watch h (.inl hs) hn
  case normal => exact .refl s
  case impact => exact State.motionStep_knock hm (by simp [hs]) m2

theorem State.motionStep_sampleInWatch (hm : s.supply.mode = .run) (hs : s.guard.state = .watch) (m2 : Nat)
    (c : SampleClass) : s.MotionStep (s.sampleInWatch m2 c) := by
  cases c
  case low =>
    exact State.motionStep_lowSample hm (by simp [hs]) nofun fun h hn => Guard.inOrder_watch h (.inr hs) hn
  case normal =>
    exact .guardEnters (s := s) (t := s.setRun 0) hm nofun (fun h => Guard.inOrder_calm (g := s.guard) h hs) rfl rfl rfl rfl rfl
  case impact => exact State.motionStep_knock hm (by simp [hs]) m2

theorem State.motionStep_landed (hm : s.supply.mode = .run) (hs : s.guard.state = .falling) : s.MotionStep s.landed :=
  .guardEnters hm nofun (fun h => Guard.inOrder_landed h hs) rfl rfl rfl rfl rfl

theorem State.motionStep_sampleInFalling (hm : s.supply.mode = .run) (hs : s.guard.state = .falling)
    (c : SampleClass) : s.MotionStep (s.sampleInFalling c) := by
  cases c
  case low => exact State.motionStep_setRun hm fun h => Guard.inOrder_setRun h (.inl hs) h.2.1
  case normal =>
    simp only [State.sampleInFalling]
    split
    · exact State.motionStep_landed hm hs
    next hn => exact State.motionStep_setRun hm fun h => Guard.inOrder_setRun h (.inl hs) (Nat.not_le.mp hn)
  case impact => exact State.motionStep_landed hm hs

theorem State.motionStep_sampleInSettle (hm : s.supply.mode = .run) (hs : s.guard.state = .settle) (m2 : Nat)
    (c : SampleClass) : s.MotionStep (s.sampleInSettle m2 c) := by
  cases c
  case low =>
    refine State.motionStep_lowSample hm (by simp [hs]) nofun fun h hn => ?_
    rw [← hs]
    exact Guard.inOrder_setRun h (.inr hs) hn
  case normal => exact State.motionStep_setRun hm fun h => Guard.inOrder_setRun h (.inr hs) h.2.1
  case impact =>
    exact .onGuard (f := fun g => { g with settle := some g.settleTime, run := 0 }) hm
      (fun h => Guard.inOrder_settleAgain h hs) rfl rfl

/-- R79, R81: a good read up to the sample in the state the guard sees it in. -/
theorem State.motionStep_seeing (hm : s.supply.mode = .run) (p : Sample) :
    s.MotionStep (s.onGuard (Guard.goodRead p)).leaveBlind := by
  unfold State.leaveBlind
  split
  next h => exact .guardEnters hm nofun (fun hg => Guard.inOrder_seeing hg h p) rfl rfl rfl rfl rfl
  next h => exact .onGuard hm (fun hg => Guard.inOrder_goodRead hg h p) rfl rfl

theorem State.leaveBlind_supply (s : State) : s.leaveBlind.supply = s.supply := by
  unfold State.leaveBlind
  split <;> simp

theorem State.motionStep_readEnds (s : State) (sample : Option Sample) : s.MotionStep (s.readEnds sample) := by
  refine .of_run (fun hm => ?_) fun _ _ htransfer => by simp [State.readEnds, htransfer]
  unfold State.readEnds
  split
  · exact .refl s
  · split
    · exact State.motionStep_transferFailed hm
    next p =>
      refine (State.motionStep_seeing hm p).trans ?_
      have hm' : (s.onGuard (Guard.goodRead p)).leaveBlind.supply.mode = .run := by
        rw [State.leaveBlind_supply]
        exact hm
      simp only [State.takeSample]
      split
      next hs => exact State.motionStep_sampleInCalm hm' hs _ _
      next hs => exact State.motionStep_sampleInWatch hm' hs _ _
      next hs => exact State.motionStep_sampleInFalling hm' hs _
      next hs => exact State.motionStep_sampleInSettle hm' hs _ _
      · exact .refl _

end Sys2Proof.Machine

/-! Steps of the guard and the sequencer, continued: the sequencer's events, the gauge's and the supply's, the starts, the
parameters and the tick. -/

namespace Sys2Proof.Machine

variable {s t u : State}

/-! ## The sequencer's events (R104 to R117) -/

/-- A change of the sequencer, with what follows it of the causes. -/
theorem State.MotionStep.of_seq (hguard : t.guard = s.guard) (hsupply : t.supply = s.supply)
    (hstanding : s.SeqStanding s.critical → t.SeqStanding s.critical) (hdrains : s.Drains → t.Drains) :
    s.MotionStep t where
  guard := State.guardInOrder_congr hguard (congrArg Supply.mode hsupply)
  standing _ h := by
    rw [State.critical_of_supply hsupply]
    exact hstanding h
  drains _ := hdrains

theorem State.motionStep_phaseExpiry {q : SeqState} {f : State → State}
    (h : s.seq.state = q → s.MotionStep (f s)) : s.MotionStep (s.phaseExpiry q f) := by
  unfold State.phaseExpiry
  split
  next hq => exact h hq.1
  · exact .refl s

theorem State.SeqStanding.guard_not_falling {critical : Bool} (h : s.SeqStanding critical)
    (hs : s.seq.state = .powering ∨ s.seq.state = .spinning) : s.guard.state ≠ .falling := by
  have hstands := h.stands
  unfold Sequencer.Stands at hstands
  rcases hs with hs | hs <;> simp only [hs] at hstands <;> exact hstands.2.2.2

theorem State.motionStep_readyReached (hs : s.seq.state = .spinning) : s.MotionStep s.readyReached :=
  .of_seq (by simp) (by simp)
    (fun h => State.seqStanding_readyReached h.latch (h.guard_not_falling (.inr hs))) fun _ => s.drains_readyReached

theorem State.motionStep_supplySettles (hs : s.seq.state = .powering) : s.MotionStep s.supplySettles := by
  have hspinning : s.MotionStep (s.onSeq Sequencer.toSpinning) := by
    refine .of_seq rfl rfl (fun h => .of_up h.latch ?_ nofun) fun _ => nofun
    have hstands := h.stands
    unfold Sequencer.Stands at hstands
    simp only [hs] at hstands
    exact ⟨rfl, rfl, hstands.2.2⟩
  simp only [State.supplySettles]
  split
  · exact hspinning.trans (State.motionStep_readyReached rfl)
  · exact hspinning

theorem State.motionStep_spinTimesOut (s : State) : s.MotionStep s.spinTimesOut :=
  .of_seq rfl rfl (fun _ => .of_target_off rfl ⟨rfl, rfl⟩) fun _ => nofun

theorem State.motionStep_unloads (s : State) : s.MotionStep s.unloads :=
  .of_seq rfl rfl (fun h => .of_up h.latch ⟨rfl, rfl⟩ nofun) fun _ => nofun

theorem State.motionStep_enterCycleWait (s : State) : s.MotionStep s.enterCycleWait :=
  .of_seq (by simp) (by simp) (fun h => State.seqStanding_enterCycleWait h.latch) fun _ => s.drains_enterCycleWait

theorem State.motionStep_offReached (s : State) : s.MotionStep s.offReached :=
  .of_seq (by simp) (by simp) (fun h => State.seqStanding_offReached h.latch) fun _ => s.drains_offReached

theorem State.motionStep_drdyRises (s : State) : s.MotionStep s.drdyRises := by
  unfold State.drdyRises
  split
  next hs => exact State.motionStep_readyReached hs
  · exact .refl s

/-- R117, R118: a loss of the ready line latches with the target OFF. -/
theorem State.motionStep_drdyFalls (s : State) : s.MotionStep s.drdyFalls := by
  have hlost : s.MotionStep ((s.onSeq fun q => (q.toUnloading .readyLost).latch .readyLost .readyLost).raise .mechanism) :=
    .of_seq rfl rfl (fun _ => .of_target_off rfl ⟨rfl, rfl⟩) fun _ => nofun
  unfold State.drdyFalls
  split
  · exact hlost
  · exact hlost
  all_goals exact .refl s

theorem State.motionStep_setTarget (s : State) (target : Target) : s.MotionStep (s.setTarget target) := by
  refine .of_seq ?_ ?_ (fun h => h.setTarget target) fun h => h.setTarget target <;>
    (simp only [State.setTarget, State.actOnTarget]; (repeat' split) <;> simp)

/-! ## The gauge's and the supply's events (R129, R153, R157, R158) -/

theorem State.motionStep_evaluate_onGauge (s : State) (f : Gauge → Gauge) (empty : Bool) :
    s.MotionStep ((s.onGauge f).evaluate s.critical empty) :=
  .evaluate (s := s) (t := s.onGauge f) rfl rfl rfl rfl empty

theorem State.motionStep_evaluate_onSupply {f : Supply → Supply} (hmode : (f s.supply).mode = s.supply.mode) :
    s.MotionStep ((s.onSupply f).evaluate s.critical false) :=
  .evaluate (s := s) (t := s.onSupply f) rfl rfl rfl hmode false

theorem State.motionStep_periodEnds (s : State) (code volts : BitVec 16) : s.MotionStep (s.periodEnds code volts) := by
  simp only [State.periodEnds]
  split
  · exact .refl s
  · exact s.motionStep_evaluate_onGauge _ _

theorem State.motionStep_setCharge (s : State) (mAh : Nat) : s.MotionStep (s.setCharge mAh) :=
  s.motionStep_evaluate_onGauge _ _

theorem State.motionStep_sprsChanges (s : State) (present : Bool) : s.MotionStep (s.sprsChanges present) := by
  have hchange (v : State) :
      v.MotionStep (((v.onSupply fun p => { p with present := present }).raise .supply).evaluate v.critical false) :=
    .evaluate (s := v) (t := (v.onSupply fun p => { p with present := present }).raise .supply) rfl rfl rfl rfl false
  simp only [State.sprsChanges]
  split
  · exact .refl s
  · split
    next h => exact (State.motionStep_leaveDoze h.1).trans (hchange s.leaveDoze)
    · exact hchange s

theorem State.motionStep_dozeExpiry (s : State) : s.MotionStep s.dozeExpiry := by
  unfold State.dozeExpiry
  split
  next h => exact State.motionStep_enterDoze h.2
  · exact .refl s

/-- R99, R122: in RETAIN the guard is stopped in CALM and the sequencer in OFF. -/
theorem State.motionStep_enterRetain (s : State) : s.MotionStep s.enterRetain where
  guard h := ⟨Guard.inOrder_retain h.1, fun _ => ⟨rfl, rfl, rfl⟩⟩
  standing _ h := ⟨h.latch, ⟨rfl, rfl⟩, fun hm => absurd rfl hm⟩
  drains _ _ := nofun

/-! ## The starts (R99 to R101, R123, R124) -/

/-- R53: after a start with the target OFF no grant is waited for. -/
theorem State.Drains.of_state (h : s.seq.state ≠ .draining) : s.Drains := fun hd => absurd hd h

theorem State.guardInOrder_cold (sprs adsel : Bool) (pins : Pins) (n : Nat) (q : List Instr) :
    (State.cold sprs adsel pins n q).guardInOrder := by
  refine State.guardInOrder_of_run rfl (Guard.inOrder_iff.mpr ⟨?_, rfl, ?_, rfl, rfl⟩)
  · constructor <;> simp [State.cold]
  · simp [State.cold]

theorem State.motionStep_coldStart (s : State) (sprs adsel : Bool) : s.MotionStep (s.coldStart sprs adsel) := by
  rw [State.coldStart_eq]
  exact ⟨⟨fun _ => State.guardInOrder_cold .., fun _ _ => .of_target_off rfl rfl⟩, fun _ _ => nofun⟩

theorem Sequencer.warm_stands (c f : Prop) (q : Sequencer) : q.warm.Stands c f := by
  by_cases h : q.cycleDelay = 0 <;> simp [Sequencer.Stands, Sequencer.warm, h]

theorem Sequencer.warm_not_draining (q : Sequencer) : q.warm.state ≠ .draining := by
  by_cases h : q.cycleDelay = 0 <;> simp [Sequencer.warm, h]

/-- R99, R123: a warm start finds the part in RETAIN, where the guard stands in CALM. -/
theorem State.motionStep_warmStart (hm : s.supply.mode = .retain) (sprs adsel : Bool) :
    s.MotionStep (s.warmStart sprs adsel) where
  guard h := by
    have hcalm := (State.stopped_of_not_run h (by simp [hm])).1
    refine State.guardInOrder_of_run (by rw [State.warmStart_supply]) ?_
    rw [State.warmStart_guard]
    exact Guard.inOrder_restart_of_calm h.1 hcalm _
  standing _ _ := by
    refine .of_target_off ?_ ?_ <;> rw [State.warmStart_seq]
    · rfl
    · exact Sequencer.warm_stands _ _ _
  drains _ _ := .of_state (by rw [State.warmStart_seq]; exact Sequencer.warm_not_draining _)

theorem Sequencer.Stands.restart {c f c' f' : Prop} {q : Sequencer} (h : q.Stands c f) : q.restart.Stands c' f' := by
  rw [Sequencer.restart_eq]
  unfold Sequencer.Stands at h ⊢
  cases hs : q.state <;> simp only [hs] at h ⊢ <;> simp_all

theorem Sequencer.restart_not_draining (q : Sequencer) : q.restart.state ≠ .draining := by
  rw [Sequencer.restart_eq]
  cases hs : q.state <;> simp

/-- R100, R124: a RESTART is taken in RUN. -/
theorem State.motionStep_restart (hm : s.supply.mode = .run) : s.MotionStep s.restart where
  guard h := by
    refine State.guardInOrder_of_run (by rw [State.restart_supply, hm]) ?_
    rw [State.restart_guard]
    exact Guard.inOrder_requestRestart h.1
  standing _ h := by
    refine .of_target_off ?_ ?_ <;> rw [State.restart_seq]
    · exact Sequencer.restart_target _
    · exact h.stands.restart
  drains _ _ := .of_state (by rw [State.restart_seq]; exact Sequencer.restart_not_draining _)

/-! ## The parameters (R84, R86, R119, R120) -/

theorem State.motionStep_setCycleDelay (s : State) (d : Nat) : s.MotionStep (s.setCycleDelay d) := by
  have hset : s.MotionStep (s.onSeq fun q => { q with cycleDelay := d }) :=
    .of_seq rfl rfl (fun h => ⟨h.latch, h.stands, h.down⟩) id
  simp only [State.setCycleDelay]
  split
  next hwait =>
    split
    · exact hset.trans (State.motionStep_offReached _)
    · refine hset.trans (.of_seq rfl rfl (fun h => .of_up h.latch ?_ ?_) id)
      · unfold Sequencer.Stands
        simp only [State.onSeq_seq] at hwait ⊢
        simp [hwait]
      · simp only [State.onSeq_seq] at hwait ⊢
        simp [hwait]
  · exact hset

/-- R206, step 2: every parameter is taken within its range. -/
theorem Param.clamp_ge (q : Param) (v : Nat) : q.range.1 ≤ q.clamp v := Nat.le_max_left ..

theorem State.ff_valueTaken (h : s.guard.ff < s.guard.fi) (v : Nat) : s.valueTaken .ff v < s.guard.fi := by
  simp only [State.valueTaken]
  split <;> omega

theorem State.fi_valueTaken (s : State) (v : Nat) : s.guard.ff < s.valueTaken .fi v := by
  simp only [State.valueTaken]
  split <;> omega

/-- A parameter is set in RUN. -/
theorem State.motionStep_setParam (hm : s.supply.mode = .run) (q : Param) (v : Nat) :
    s.MotionStep (s.setParam q (s.valueTaken q v)) := by
  cases q
  case samplePeriod => exact .onGuard (f := Guard.setSamplePeriod _) hm id rfl rfl
  case ff =>
    exact .onGuard (f := fun g => { g with ff := s.valueTaken .ff v }) hm
      (fun h => Guard.inOrder_thresholds h (State.ff_valueTaken h.1 v)) rfl rfl
  case fi =>
    exact .onGuard (f := fun g => { g with fi := s.valueTaken .fi v }) hm
      (fun h => Guard.inOrder_thresholds h (s.fi_valueTaken v)) rfl rfl
  case nf => exact .onGuard (f := Guard.setNf _) hm (fun h => Guard.inOrder_setNf h (Param.clamp_ge .nf v)) rfl rfl
  case settleTime => exact .onGuard (f := fun g => { g with settleTime := _ }) hm id rfl rfl
  case blindPolicy =>
    refine ⟨⟨fun h => ?_, fun _ h => ?_⟩, fun _ h => ?_⟩
    · refine State.guardInOrder_of_run (by simpa [State.setParam] using hm) ?_
      simp only [State.setParam, State.powerUpCheck_guard]
      exact h.1
    · simp only [State.setParam]
      rw [State.critical_of_supply (State.powerUpCheck_supply _)]
      exact State.seqStanding_powerUpCheck (s := s.onGuard fun g => { g with blindPolicy := blindOf (s.valueTaken .blindPolicy v) })
        h.latch h.stands
    · exact State.drains_powerUpCheck (h.congr rfl rfl)
  case supplySettle | spinTimeout | unloadTime | spinDown =>
    exact .of_seq rfl rfl (fun h => ⟨h.latch, h.stands, h.down⟩) id
  case cycleDelay => exact s.motionStep_setCycleDelay _
  case capacity => exact s.motionStep_evaluate_onGauge _ _
  case rPark | rEntry | hyst => exact State.motionStep_evaluate_onSupply rfl
  case grantTimeout => exact .of_seq rfl rfl (fun h => ⟨h.latch, h.stands, h.down⟩) id
  all_goals exact .of_eq rfl rfl rfl rfl rfl

/-! ## The tick (R95, R176) -/

theorem State.grantsEmpty_tickTimers (s : State) : s.tickTimers.grantsEmpty = s.grantsEmpty := by
  rw [Bool.eq_iff_iff, State.grantsEmpty_iff, State.grantsEmpty_iff]
  simp [State.tickTimers]

theorem Sequencer.Stands.tick {c f : Prop} {q : Sequencer} (h : q.Stands c f) : q.tick.Stands c f := by
  unfold Sequencer.Stands at h ⊢
  simp only [Sequencer.tick]
  cases hs : q.state <;> simp only [hs] at h ⊢ <;> simp [h, tickTimer]

theorem State.motionStep_tick (s : State) : s.MotionStep s.tick := by
  have htimers : s.MotionStep s.tickTimers := by
    refine ⟨⟨fun h => ⟨Guard.inOrder_tick h.1, fun hm => ?_⟩, fun _ h => ⟨h.latch, h.stands.tick, h.down⟩⟩, fun _ h hd => ?_⟩
    · obtain ⟨hcalm, hsample, htransfer⟩ := h.2 hm
      exact ⟨hcalm, congrArg tickTimer hsample, htransfer⟩
    · rw [s.grantsEmpty_tickTimers]
      exact h hd
  unfold State.tick
  split
  · exact .refl s
  · exact htimers.congr_right rfl rfl rfl rfl

end Sys2Proof.Machine

/-! What every command does to the guard and the sequencer: it keeps both in order (`exec_motionStep`). -/

namespace Sys2Proof.Machine

variable {s t u : State}

/-! ## The transfers -/

theorem State.motionStep_onLink (s : State) (f : Link → Link) : s.MotionStep (s.onLink f) := .of_eq rfl rfl rfl rfl rfl

/-- R98, R157: an address wakes the part from DOZE. -/
theorem State.motionStep_wake (hm : s.supply.mode = .doze) : s.MotionStep s.wake :=
  (State.motionStep_leaveDoze hm).trans (State.motionStep_onLink _ _)

theorem PowerMode.run_of_not {m : PowerMode} (h1 : m ≠ .retain) (h2 : m ≠ .doze) : m = .run := by
  cases m
  · rfl
  · exact absurd rfl h2
  · exact absurd rfl h1

/-- A transfer reaches the blocks in RUN. -/
theorem State.MotionStep.transfer {c : Instr} {dir : Dir} {lost start : Link → Link} {rest : State → State}
    (h : ∀ b : State, b.supply.mode = .run → b.MotionStep (rest b)) :
    s.MotionStep (s.transfer c dir lost start rest) := by
  unfold State.transfer
  split
  · exact s.motionStep_onLink _
  next hretain =>
    split
    · exact .event fun _ => s.motionStep_onLink _
    · split
      · exact s.motionStep_onLink _
      · split
        next hdoze =>
          exact ((State.motionStep_wake hdoze).trans (State.motionStep_onLink _ _)).trans
            (State.motionStep_dozeFollows _ _)
        next hdoze =>
          have hrun : s.supply.mode = .run := PowerMode.run_of_not hretain hdoze
          split
          · exact s.motionStep_onLink _
          · have hbusy : s.MotionStep ((s.onLink start).dozeFollows s.dozeCondition) :=
              (s.motionStep_onLink start).trans (State.motionStep_dozeFollows _ _)
            refine (hbusy.trans (h _ ?_)).trans (State.motionStep_dozeFollows _ _)
            rw [State.supply_dozeFollows]
            exact hrun

theorem State.MotionStep.request {serve : List Byte → State → Served}
    (h : ∀ p (b : State), b.supply.mode = .run → b.MotionStep (serve p b).1) (c : Instr) (code : Byte)
    (payload : List Byte) : s.MotionStep (s.request c code payload serve) := by
  refine .transfer fun b hb => ?_
  split
  · exact (h _ b hb).trans (State.motionStep_onLink _ _)
  all_goals exact State.motionStep_onLink _ _

theorem State.motionStep_refusedWrite (s : State) (c : Instr) (v : Verdict) (code : Code) (bytes : List Byte) :
    s.MotionStep (s.refusedWrite c v code bytes) := by
  unfold State.refusedWrite
  split
  · exact .transfer fun b _ => State.motionStep_onLink _ _
  · exact .refl s

theorem State.motionStep_addressByte (s : State) (address : BitVec 7) (dir : Dir) :
    s.MotionStep (s.addressByte address dir) := by
  have hended : s.MotionStep (s.onLink Link.endTransfer) := s.motionStep_onLink _
  simp only [State.addressByte]
  split
  · split
    next hdoze => exact hended.trans (State.motionStep_wake hdoze)
    · exact hended.trans (State.motionStep_onLink _ _)
  · exact hended.trans (State.motionStep_onLink _ _)

theorem State.MotionStep.onBus {f : State → State} (h : s.MotionStep (f s)) (c : Instr) : s.MotionStep (s.onBus c f) := by
  unfold State.onBus
  split
  · exact .event fun _ => s.motionStep_onLink _
  · exact .event fun _ => h

theorem State.motionStep_answerFormed (s : State) : s.MotionStep s.answerFormed := by
  unfold State.answerFormed
  split
  · exact s.motionStep_onLink _
  · exact .refl s

theorem State.motionStep_wakingEnds (s : State) : s.MotionStep s.wakingEnds := by
  unfold State.wakingEnds
  split
  · exact s.motionStep_onLink _
  · exact .refl s

/-! ## The requests -/

theorem State.MotionStep.onSurvey {n : Nat} {act : Fin 64 → Served} (h : ∀ i, s.MotionStep (act i).1) :
    s.MotionStep (s.onSurvey n act).1 := by
  unfold State.onSurvey
  split
  · exact .refl s
  · split
    · exact .refl s
    next i _ => exact h i

section
variable (s : State) (p : List Byte)

theorem motionStep_serveReadStatus : s.MotionStep (serveReadStatus p s).1 := by
  unfold serveReadStatus; split <;> exact .of_eq rfl rfl rfl rfl rfl
theorem motionStep_serveClearAttention : s.MotionStep (serveClearAttention p s).1 := by
  unfold serveClearAttention; (repeat' split) <;> exact .of_eq rfl rfl rfl rfl rfl
theorem motionStep_serveSetClock : s.MotionStep (serveSetClock p s).1 := by
  unfold serveSetClock; split <;> exact .of_eq rfl rfl rfl rfl rfl
theorem motionStep_serveOpenSurvey : s.MotionStep (serveOpenSurvey p s).1 := by
  unfold serveOpenSurvey
  (repeat' split) <;> try exact .refl s
  exact (s.motionStep_setEntry _ _).trans (State.motionStep_openChanged _)
theorem motionStep_serveAddWindow : s.MotionStep (serveAddWindow p s).1 := by
  unfold serveAddWindow
  split
  · exact .refl s
  · split
    · exact .refl s
    · refine .onSurvey fun i => ?_
      split
      · exact .refl s
      · exact s.motionStep_modifyEntry _ _
theorem motionStep_serveDropWindow : s.MotionStep (serveDropWindow p s).1 := by
  unfold serveDropWindow
  split
  · exact .refl s
  · refine .onSurvey fun i => ?_
    split
    · exact .refl s
    · exact .refl s
    · exact s.motionStep_modifyEntry _ _
theorem motionStep_serveRename : s.MotionStep (serveRename p s).1 := by
  unfold serveRename
  split
  · exact .refl s
  · split
    · exact .refl s
    · exact .onSurvey fun i => s.motionStep_modifyEntry _ _
theorem motionStep_serveSetHold : s.MotionStep (serveSetHold p s).1 := by
  unfold serveSetHold
  split
  · exact .refl s
  · exact .onSurvey fun i => s.motionStep_modifyEntry _ _
theorem motionStep_serveRestore : s.MotionStep (serveRestore p s).1 := by
  unfold serveRestore; (repeat' split) <;> exact .of_eq rfl rfl rfl rfl rfl

theorem motionStep_sealAt (i : Fin 64) (n : Nat) : s.MotionStep (s.sealAt i n).1 := by
  unfold State.sealAt
  split
  · split
    · exact s.motionStep_modifyEntry _ _
    · exact s.motionStep_sealEntry i
  all_goals exact .refl s
theorem motionStep_verifiedAt (i : Fin 64) (n : Nat) : s.MotionStep (s.verifiedAt i n).1 := by
  unfold State.verifiedAt
  split
  · split <;> exact .of_eq rfl rfl rfl rfl rfl
  · split
    · exact .refl s
    · exact (s.motionStep_modifyEntry i Entry.unmark).trans (State.motionStep_sealEntry _ i)
  all_goals exact .refl s
theorem motionStep_reopenAt (i : Fin 64) (n : Nat) : s.MotionStep (s.reopenAt i n).1 := by
  unfold State.reopenAt; split <;> exact .of_eq rfl rfl rfl rfl rfl
theorem motionStep_retireAt (i : Fin 64) (n : Nat) : s.MotionStep (s.retireAt i n).1 := by
  have hwaits : s.MotionStep (if s.named i = true then
      (s.modifyEntry i (Entry.withState .retiring)).openChanged.servedState i n
      else ((s.clearEntry i).openChanged, freedAnswer i n)).1 := by
    split
    · exact (s.motionStep_modifyEntry i (Entry.withState .retiring)).trans (State.motionStep_openChanged _)
    · exact (s.motionStep_setEntry i Entry.cleared).trans (State.motionStep_openChanged _)
  unfold State.retireAt
  split
  · exact .refl s
  · split
    · exact .of_eq rfl rfl rfl rfl rfl
    · exact hwaits
    · exact hwaits
    all_goals exact .refl s

theorem motionStep_serveSeal : s.MotionStep (serveSeal p s).1 := by
  unfold serveSeal
  split
  · exact .refl s
  · exact .onSurvey fun i => motionStep_sealAt s i _
theorem motionStep_serveVerified : s.MotionStep (serveVerified p s).1 := by
  unfold serveVerified
  split
  · exact .refl s
  · exact .onSurvey fun i => motionStep_verifiedAt s i _
theorem motionStep_serveReopen : s.MotionStep (serveReopen p s).1 := by
  unfold serveReopen
  split
  · exact .refl s
  · exact .onSurvey fun i => motionStep_reopenAt s i _
theorem motionStep_serveRetire : s.MotionStep (serveRetire p s).1 := by
  unfold serveRetire
  split
  · exact .refl s
  · exact .onSurvey fun i => motionStep_retireAt s i _

theorem motionStep_grantOrHold (slot : Option (Fin 64)) (window first count : Nat) :
    s.MotionStep (s.grantOrHold slot window first count).1 := by
  unfold State.grantOrHold
  split
  · exact .refl s
  · exact .refl s
  · cases slot with
    | none => exact s.motionStep_issueGrant _ _ _ _ _
    | some i => exact (s.motionStep_issueGrant _ _ _ _ _).trans (State.motionStep_modifyEntry _ _ _)
theorem motionStep_serveCheckWrite : s.MotionStep (serveCheckWrite p s).1 := by
  unfold serveCheckWrite State.checkRange State.checkCovered State.checkUncovered
  (repeat' split) <;> first | exact .refl s | exact motionStep_grantOrHold s _ _ _ _
theorem motionStep_serveWriteDone : s.MotionStep (serveWriteDone p s).1 := by
  unfold serveWriteDone
  (repeat' split) <;> first | exact .refl s | exact s.motionStep_removeGrant _ _ _
theorem motionStep_serveSetTarget : s.MotionStep (serveSetTarget p s).1 := by
  unfold serveSetTarget
  split
  · exact .refl s
  · exact s.motionStep_setTarget _
theorem motionStep_serveSetCharge : s.MotionStep (serveSetCharge p s).1 := by
  unfold serveSetCharge
  split
  · exact .refl s
  · exact s.motionStep_setCharge _

variable {s}

theorem motionStep_serveSetParam (hm : s.supply.mode = .run) : s.MotionStep (serveSetParam p s).1 := by
  unfold serveSetParam
  (repeat' split) <;> first | exact .refl s | exact State.motionStep_setParam hm _ _
theorem motionStep_serveRestart (hm : s.supply.mode = .run) : s.MotionStep (serveRestart p s).1 := by
  unfold serveRestart
  split
  · exact .refl s
  · exact State.motionStep_restart hm

end

/-! ## The commands -/

/-- Every command keeps the guard and the sequencer in order. -/
theorem exec_motionStep (c : Instr) (h : exec c s = .next t) : s.MotionStep t := by
  have happens {f : State → State} (hf : s.MotionStep (f s)) : s.MotionStep (s.event f) := .event fun _ => hf
  have reported {serve : List Byte → State → Served} (hf : ∀ p (b : State), (serve p b).1 = b) (c : Instr)
      (code : Byte) (p : List Byte) : s.MotionStep (s.request c code p serve) :=
    .request (fun p b _ => by rw [hf p b]; exact .refl b) c code p
  have served {serve : List Byte → State → Served} (hf : ∀ (b : State) p, b.MotionStep (serve p b).1) (c : Instr)
      (code : Byte) (p : List Byte) : s.MotionStep (s.request c code p serve) :=
    .request (fun p b _ => hf b p) c code p
  cases c <;> cases h
  case readStatus => exact served motionStep_serveReadStatus _ _ _
  case clearAttention => exact served motionStep_serveClearAttention _ _ _
  case restart => exact .request (fun p b hb => motionStep_serveRestart p hb) _ _ _
  case readParam => exact reported (fun p b => serveReadParam_state b p) _ _ _
  case setParam => exact .request (fun p b hb => motionStep_serveSetParam p hb) _ _ _
  case readClock => exact reported (fun p b => serveReadClock_state b p) _ _ _
  case setClock => exact served motionStep_serveSetClock _ _ _
  case openSurvey => exact served motionStep_serveOpenSurvey _ _ _
  case addWindow => exact served motionStep_serveAddWindow _ _ _
  case dropWindow => exact served motionStep_serveDropWindow _ _ _
  case findSurvey => exact reported (fun p b => serveFindSurvey_state b p) _ _ _
  case findBlock => exact reported (fun p b => serveFindBlock_state b p) _ _ _
  case readEntry => exact reported (fun p b => serveReadEntry_state b p) _ _ _
  case nextEntry => exact reported (fun p b => serveNextEntry_state b p) _ _ _
  case rename => exact served motionStep_serveRename _ _ _
  -- SEAL, whose name is a keyword of Lean, is the next command in order
  next => exact served motionStep_serveSeal _ _ _
  case verified => exact served motionStep_serveVerified _ _ _
  case reopen => exact served motionStep_serveReopen _ _ _
  case setHold => exact served motionStep_serveSetHold _ _ _
  case retire => exact served motionStep_serveRetire _ _ _
  case restore => exact served motionStep_serveRestore _ _ _
  case checkWrite => exact served motionStep_serveCheckWrite _ _ _
  case writeDone => exact served motionStep_serveWriteDone _ _ _
  case readGrants => exact reported (fun p b => serveReadGrants_state b p) _ _ _
  case readGuard => exact reported (fun p b => serveReadGuard_state b p) _ _ _
  case setTarget => exact served motionStep_serveSetTarget _ _ _
  case readMechanism => exact reported (fun p b => serveReadMechanism_state b p) _ _ _
  case readGauge => exact reported (fun p b => serveReadGauge_state b p) _ _ _
  case setCharge => exact served motionStep_serveSetCharge _ _ _
  case malformed => exact s.motionStep_refusedWrite _ _ _ _
  case unknown => exact s.motionStep_refusedWrite _ _ _ _
  case emptyWrite => exact .transfer fun b _ => b.motionStep_onLink _
  case addressMatch address dir =>
    split
    · exact s.motionStep_onLink _
    · exact (s.motionStep_addressByte address dir).onBus _
  case answerFormed => exact happens s.motionStep_answerFormed
  case answerRead => exact .transfer fun b _ => b.motionStep_onLink _
  case linkClear =>
    exact .trans (t := s.setLclr false) (.of_eq rfl rfl rfl rfl rfl) (.event fun _ => State.motionStep_onLink _ _)
  case linkClearRelease => exact .of_eq rfl rfl rfl rfl rfl
  case sampleTimerExpiry => exact happens s.motionStep_sampleExpiry
  case setupComplete => exact happens (s.motionStep_setupEnds _)
  case readComplete => exact happens (s.motionStep_readEnds _)
  case settleTimerExpiry => exact happens s.motionStep_settleExpiry
  case grantDeadlineExpiry slot => exact happens (s.motionStep_expireGrant slot)
  case supplySettleExpiry => exact happens (State.motionStep_phaseExpiry State.motionStep_supplySettles)
  case spinTimeoutExpiry => exact happens (State.motionStep_phaseExpiry fun _ => s.motionStep_spinTimesOut)
  case unloadTimeExpiry => exact happens (State.motionStep_phaseExpiry fun _ => s.motionStep_unloads)
  case spinDownExpiry => exact happens (State.motionStep_phaseExpiry fun _ => s.motionStep_enterCycleWait)
  case cycleDelayExpiry => exact happens (State.motionStep_phaseExpiry fun _ => s.motionStep_offReached)
  case drdyAsserted =>
    exact .trans (t := s.setDrdy true) (.of_eq rfl rfl rfl rfl rfl) (.event fun _ => State.motionStep_drdyRises _)
  case drdyReleased =>
    exact .trans (t := s.setDrdy false) (.of_eq rfl rfl rfl rfl rfl) (.event fun _ => State.motionStep_drdyFalls _)
  case periodEnd code volts => exact happens (s.motionStep_periodEnds code volts)
  case sprsChange present => exact happens (s.motionStep_sprsChanges present)
  case dozeTimerExpiry => exact happens s.motionStep_dozeExpiry
  case enterRetain =>
    split
    · exact .refl s
    · exact s.motionStep_enterRetain
  case retainedContentsLoss => split <;> exact .of_eq rfl rfl rfl rfl rfl
  case coldStart sprs adsel =>
    split
    · exact s.motionStep_coldStart sprs adsel
    · exact .refl s
  case warmStart sprs adsel =>
    split
    next h => exact State.motionStep_warmStart h.1 sprs adsel
    · exact .refl s
  case secondStep => split <;> exact .of_eq rfl rfl rfl rfl rfl
  case wakingTransferEnd => exact s.motionStep_wakingEnds.onBus _

theorem step_motionStep (h : step s = .next t) : s.MotionStep t := by
  unfold step at h
  split at h
  · cases h
    exact s.motionStep_tick
  next c rest _ =>
    exact .trans (t := { s with pending := rest }) (.of_eq rfl rfl rfl rfl rfl) (exec_motionStep c h)

/-- Settles O56: each guard state by what it has (`Guard.inOrder_iff`), and every step as a step of the guard
(`step_motionStep`). -/
theorem guardStaysInOrder : Obligations.GuardStaysInOrder :=
  fun _ _ hs h => (step_motionStep h).guard hs

/-- Settles O57: each sequencer state by what it has (`State.sequencerInOrder_iff`), and every step as a step of the
sequencer (`step_motionStep`). -/
theorem sequencerStaysInOrder : Obligations.SequencerStaysInOrder :=
  fun _ _ hg hs h => (step_motionStep h).sequencerInOrder hg hs

end Sys2Proof.Machine

/-! The transfers that take no request: in RETAIN, FORMING or DOZE, with LCLR_N low, or ignored. -/

namespace Sys2Proof.Machine

variable {s : State} {c : Instr}

/-! ## The transfers as one operation -/

/-- A command that ends a transfer is a read, or a write that the port may take. -/
theorem transfer_of_endsTransfer (h : endsTransfer c) :
    (∃ n, c = .answerRead n) ∨ (∀ n, c ≠ .answerRead n) ∧
      ∀ s, ∃ start rest, exec c s = .next (s.transfer c .write Link.lostWrite start rest) := by
  rcases h with ⟨code, p, hc⟩ | ⟨bytes, rfl, hj⟩ | ⟨code, p, rfl, hj⟩ | rfl | hread
  · refine .inr ?_
    cases c <;> simp only [requestOf, reduceCtorEq] at hc <;> exact ⟨nofun, fun s => ⟨_, _, rfl⟩⟩
  · exact .inr ⟨nofun, fun s => ⟨_, _, congrArg Host.Outcome.next (if_pos hj)⟩⟩
  · exact .inr ⟨nofun, fun s => ⟨_, _, congrArg Host.Outcome.next (if_pos hj)⟩⟩
  · exact .inr ⟨nofun, fun s => ⟨_, _, rfl⟩⟩
  · exact .inl hread

/-- R156: after an event that leaves the doze timer alone, it has followed the doze condition. -/
theorem State.dozeTimed_event {f : State → State} (hm : s.supply.mode ≠ .retain)
    (hd : (f s).supply.dozeTimer = s.supply.dozeTimer) : s.dozeTimed (s.event f) := by
  simp only [State.event, if_neg hm, State.dozeTimed, State.dozeFollows_dozeCondition, State.supply_dozeFollows, hd]

theorem State.event_blocks {f : State → State} (hm : s.supply.mode ≠ .retain) : (s.event f).blocks = (f s).blocks := by
  simp only [State.event, if_neg hm, State.dozeFollows_blocks]

theorem State.event_link {f : State → State} (hm : s.supply.mode ≠ .retain) : (s.event f).link = (f s).link := by
  simp only [State.event, if_neg hm, State.dozeFollows_link]

theorem Link.ignores_eq_false_iff (l : Link) : l.ignores = false ↔ l.ignored = false ∧ l.state ≠ .waking := by
  simp [Link.ignores]

theorem Link.ignores_iff (l : Link) : l.ignores = true ↔ l.ignored = true ∨ l.state = .waking := by
  simp [Link.ignores]

/-- R195: the transfer that comes in FORMING waits, and the first of them is the one the clock is stretched for. -/
theorem Link.stretch_defer_eq (l : Link) (h : l.state = .forming) (dir : Dir) (c : Instr) :
    (l.stretch dir).defer c = { l with
      held := l.held ++ [c], waiting := if l.waiting = none then some dir else l.waiting,
      acked := l.acked || decide (l.waiting = none) } := by
  cases hw : l.waiting <;> simp [Link.stretch, Link.stretched, Link.defer, h, hw]

theorem Link.lostWrite_eq (l : Link) : l.lostWrite = { l with
    state := if l.state = .waking then .idle else l.state, ignored := false, acked := false } := rfl

theorem Link.lostRead_eq (l : Link) (n : Nat) : l.lostRead n = { l with
    state := if l.state = .waking then .idle else l.state, ignored := false, acked := false,
    sent := List.replicate n 0xFF } := rfl

/-- A transfer of one direction where the port takes no request: `sent` is what an ignored one gives the bridge. -/
theorem State.transfer_outside_run {dir : Dir} {lost start : Link → Link} {rest : State → State} {sent : List Byte}
    (he : exec c s = .next (s.transfer c dir lost start rest))
    (hlost : lost s.link = { s.link with
      state := if s.link.state = .waking then .idle else s.link.state, ignored := false, acked := false, sent := sent }) :
    (s.supply.mode = .retain → exec c s = .next { s with link := { s.link with acked := false } }) ∧
    (s.supply.mode = .run → s.link.ignored = false → s.link.state = .forming → s.pins.lclrN = true →
      exec c s = .next { s with
        link := { s.link with
          held := s.link.held ++ [c], waiting := if s.link.waiting = none then some dir else s.link.waiting,
          acked := s.link.acked || decide (s.link.waiting = none) } }) ∧
    (s.supply.mode ≠ .retain → s.link.ignored = false → s.link.state ≠ .waking → s.pins.lclrN = false →
      exec c s = .next { s with link := { s.link with acked := false } }) ∧
    (s.supply.mode = .doze → s.link.ignored = false → s.link.state ≠ .waking → s.pins.lclrN = true →
      ∃ t, exec c s = .next t ∧ t.link = { s.link with state := .idle, acked := false } ∧
        t.blocks = State.blocks { s with
          supply := { s.supply with mode := .run },
          guard := { s.guard with
            state := .calm, run := 0, settle := none, transfer := .none, setupPending := true, misses := 0,
            lastSample := none, sampleTimer := some s.guard.samplePeriod } } ∧
        (t.dozeCondition = true → t.supply.dozeTimer = some (s.supply.dozeDelay * 1000))) ∧
    (s.supply.mode ≠ .retain → s.link.ignored = true ∨ s.link.state = .waking →
      ∃ t, exec c s = .next t ∧ t.blocks = s.blocks ∧ s.dozeTimed t ∧
        t.link = { s.link with
          state := if s.link.state = .waking then .idle else s.link.state, ignored := false, acked := false,
          sent := sent }) := by
  rw [he]
  refine ⟨fun hm => ?_, fun hm hi hf hl => ?_, fun _ hi hw hl => ?_, fun hm hi hw hl => ⟨_, rfl, ?_, ?_, fun hc => ?_⟩,
    fun hm hi => ⟨_, rfl, ?_⟩⟩
  · rw [State.transfer_unacknowledged _ _ _ _ _ _ (.inl hm)]
    rfl
  · have hlistens := (Link.ignores_eq_false_iff s.link).mpr ⟨hi, by simp [hf]⟩
    rw [State.transfer_held _ _ _ _ _ _ hm hlistens hl hf, State.onLink, Link.stretch_defer_eq _ hf]
  · have hlistens := (Link.ignores_eq_false_iff s.link).mpr ⟨hi, hw⟩
    rw [State.transfer_unacknowledged _ _ _ _ _ _ (.inr ⟨hlistens, hl⟩)]
    rfl
  · rw [State.transfer_doze _ _ _ _ _ _ hm ((Link.ignores_eq_false_iff s.link).mpr ⟨hi, hw⟩) hl, State.dozeFollows_link]
    rfl
  · rw [State.transfer_doze _ _ _ _ _ _ hm ((Link.ignores_eq_false_iff s.link).mpr ⟨hi, hw⟩) hl, State.dozeFollows_blocks]
    rfl
  · rw [State.transfer_doze _ _ _ _ _ _ hm ((Link.ignores_eq_false_iff s.link).mpr ⟨hi, hw⟩) hl] at hc ⊢
    rw [State.dozeFollows_dozeCondition] at hc
    rw [State.supply_dozeFollows, hc]
    rfl
  · rw [State.transfer_ignored _ _ _ _ _ _ hm ((Link.ignores_iff s.link).mpr hi)]
    refine ⟨(State.event_blocks hm).trans rfl, State.dozeTimed_event hm rfl, (State.event_link hm).trans hlost⟩

/-- Settles O5: a command that ends a transfer is a write or a read of `State.transfer` (`transfer_of_endsTransfer`), and
each is passed over, held or lost the same way (`State.transfer_outside_run`). -/
theorem transfersOutsideRunTakeNoRequest : Obligations.TransfersOutsideRunTakeNoRequest := by
  intro c s h
  rcases transfer_of_endsTransfer h with ⟨n, rfl⟩ | ⟨hwrite, hexec⟩
  · exact State.transfer_outside_run rfl (Link.lostRead_eq _ n)
  · obtain ⟨start, rest, he⟩ := hexec s
    have hclauses := State.transfer_outside_run he (Link.lostWrite_eq _)
    cases c
    case answerRead n => exact absurd rfl (hwrite n)
    all_goals exact hclauses

end Sys2Proof.Machine

/-! The guard report, with the integer square root of the peak, and the mechanism report. -/

namespace Sys2Proof.Machine

variable {s u : State} {a : Answer} {p : List Byte}

/-! ## The integer square root (R83) -/

/-- The root found so far, with the bits below `b` still to come. -/
structure Brackets (m b r : Nat) : Prop where
  lower : r * r ≤ m
  upper : m < (r + 2 ^ b) * (r + 2 ^ b)

theorem Brackets.rootBit {m b r : Nat} (h : Brackets m (b + 1) r) : Brackets m b (rootBit m r b) := by
  unfold Machine.rootBit
  split
  next hkeep =>
    refine ⟨hkeep, ?_⟩
    have hsum : r + 2 ^ b + 2 ^ b = r + 2 ^ (b + 1) := by rw [pow_succ]; omega
    rw [hsum]
    exact h.upper
  next hdrop => exact ⟨h.lower, Nat.not_le.mp hdrop⟩

theorem Brackets.foldl {m : Nat} (n : Nat) {r : Nat} (h : Brackets m n r) :
    Brackets m 0 ((List.range n).reverse.foldl (Machine.rootBit m) r) := by
  induction n generalizing r with
  | zero => exact h
  | succ n ih =>
    rw [List.range_succ, List.reverse_append, List.reverse_singleton, List.singleton_append, List.foldl_cons]
    exact ih h.rootBit

theorem integerRoot_eq_sqrt {m : Nat} (hm : m < 2 ^ 32) : integerRoot m = Nat.sqrt m := by
  have h : Brackets m 0 (integerRoot m) := Brackets.foldl 16 ⟨Nat.zero_le m, by simpa using hm⟩
  exact Nat.eq_sqrt.mpr ⟨h.lower, h.upper⟩

/-! ## The reports (R97, R121, R205) -/

section
variable (hl : s.listens) (hp : p.length ≤ 80)
include hl hp

theorem readGuard_serves (h : serveReadGuard p s = (u, a)) : Serves (.readGuard p) s u a :=
  serves_of_serve rfl (unlinked_readGuard p) (by decide) hl hp h
theorem readMechanism_serves (h : serveReadMechanism p s = (u, a)) : Serves (.readMechanism p) s u a :=
  serves_of_serve rfl (unlinked_readMechanism p) (by decide) hl hp h

end

theorem Guard.flags_eq (g : Guard) : g.flags =
    (if g.setupPending then 1 else 0) + (if g.episode.isOpen then 2 else 0) + (if g.lastSample = none then 0 else 4) := by
  have hsample : 4 * flag g.lastSample.isSome = if g.lastSample = none then 0 else 4 := by
    cases g.lastSample <;> rfl
  rw [Guard.flags, hsample, two_mul_flag]
  rfl

theorem Sequencer.remaining_eq (q : Sequencer) : q.remaining =
    if q.state = .off ∨ q.state = .ready ∨ q.state = .draining then 0 else q.phase.getD 0 := by
  cases hs : q.state <;> simp [Sequencer.remaining, hs]

theorem State.flag_critical (s : State) :
    flag s.critical = if s.supply.level = .critical ∧ s.supply.present = false then 1 else 0 := by
  simp only [flag, State.critical_iff]

theorem State.flag_offDemand (s : State) : flag s.offDemand =
    if s.seq.target = .off ∨ (s.supply.level = .critical ∧ s.supply.present = false) then 1 else 0 := by
  simp only [flag, State.offDemand_iff, State.critical_iff]

/-- R102: the lines a sequencer state drives in RUN. -/
theorem State.linesByte_eq (hm : s.supply.mode = .run) : s.linesByte =
    (if s.seq.state = .off ∨ s.seq.state = .cycleWait then 0 else 1) +
      (if s.seq.state = .spinning ∨ s.seq.state = .ready ∨ s.seq.state = .draining ∨ s.seq.state = .unloading
        then 2 else 0) +
      (if s.seq.state = .unloading ∨ s.seq.state = .stopping then 4 else 0) + (if s.pins.drdy then 8 else 0) := by
  have hdrdy : 8 * flag s.pins.drdy = if s.pins.drdy then 8 else 0 := by cases s.pins.drdy <;> rfl
  have hlines : s.lines = s.seq.state.lines := if_neg (by simp [hm])
  rw [State.linesByte, hdrdy, hlines]
  cases s.seq.state <;> rfl

/-- Settles O12: the guard report with its root (`integerRoot_eq_sqrt`) and the mechanism report with its lines
(`State.linesByte_eq`). -/
theorem guardAndMechanismAreReported : Obligations.GuardAndMechanismAreReported := by
  refine ⟨fun s root hs hlow hhigh hpeak => readGuard_serves hs (by simp) ?_,
    fun s hs => readMechanism_serves hs (by simp) ?_⟩
  · have hroot : integerRoot s.guard.episode.peak = root := by
      rw [integerRoot_eq_sqrt (by omega)]
      exact (Nat.eq_sqrt.mpr ⟨hlow, hhigh⟩).symm
    change (s, okAnswer s.guard.report) = _
    rw [Guard.report, hroot, Guard.flags_eq]
    cases s.guard.lastSample <;> rfl
  · have htwo : 2 * flag s.critical = if s.supply.level = .critical ∧ s.supply.present = false then 2 else 0 := by
      rw [State.flag_critical]
      split <;> rfl
    change (s, okAnswer s.mechanismReport) = _
    rw [State.mechanismReport, htwo, State.flag_offDemand, Sequencer.remaining_eq, State.linesByte_eq hs.1]

end Sys2Proof.Machine

/-! The sample timer, the settle timer, the missed samples and the samples taken. -/

namespace Sys2Proof.Machine

variable {s u : State} {c : Instr} {p : Sample}

/-! ## Events and what they leave -/

/-- An event that leaves a state with the Link Port and the doze timer as they were. -/
theorem becomes_of_eq {f : State → State} (he : exec c s = .next (s.event f)) (hm : s.supply.mode ≠ .retain)
    (h : f s = u) (hlink : u.link = s.link) (hdoze : u.supply.dozeTimer = s.supply.dozeTimer) : Becomes c s u := by
  subst h
  exact becomes_of_event he hm rfl hlink hdoze

/-- An event that does not happen. -/
theorem exec_of_idle {f : State → State} (he : exec c s = .next (s.event f)) (h : f s = s) : exec c s = .next s := by
  rw [he, State.event_of_idle h]

theorem timerEnded_of_ne {t : Timer} (h : t ≠ some 0) : timerEnded t = false := by
  simpa [timerEnded] using h

/-- R87, R107: a change of guard state. -/
theorem State.guardEnters_of_ne {g : GuardState} (h : s.guard.state ≠ g) :
    s.guardEnters g = (s.onGuard fun k => { k with state := g }).powerUpCheck := if_neg h

/-- R95: an open episode closed, with the time in FALLING. -/
theorem Guard.closeEpisode_eq (g : Guard) : g.closeEpisode = { g with
    fallMs := 0,
    episode := { g.episode with
      isOpen := false,
      duration := if g.state = .falling then min 65535 (g.episode.duration + g.fallMs) else g.episode.duration } } := by
  simp only [Guard.closeEpisode, Episode.addFall]
  split <;> rfl

/-! ## The sample timer and the setup (R75 to R78) -/

theorem State.sampleExpiry_of_ne (h : s.guard.sampleTimer ≠ some 0) : s.sampleExpiry = s :=
  if_pos (timerEnded_of_ne h)

theorem State.sampleExpiry_of_free (h : s.guard.sampleTimer = some 0) (ht : s.guard.transfer = .none) :
    s.sampleExpiry = { s with guard := { s.guard with
      sampleTimer := some s.guard.samplePeriod, transfer := if s.guard.setupPending then .setup else .read } } := by
  simp [State.sampleExpiry, timerEnded, State.onGuard, h, ht]

/-- R77: a transfer still in flight costs the sample. -/
theorem State.sampleExpiry_of_busy (h : s.guard.sampleTimer = some 0) (ht : s.guard.transfer ≠ .none) :
    s.sampleExpiry =
      State.missSample { s with guard := { s.guard with sampleTimer := some s.guard.samplePeriod } } := by
  refine (if_neg (by simp [timerEnded, h])).trans ?_
  dsimp only
  split
  · rfl
  · rfl
  next hfree => exact absurd hfree ht

theorem State.setupEnds_of_ne (h : s.guard.transfer ≠ .setup) (good : Bool) : s.setupEnds good = s := if_pos h

theorem State.setupEnds_of_good (h : s.guard.transfer = .setup) :
    s.setupEnds true = { s with guard := { s.guard with transfer := .none, setupPending := false } } := by
  simp [State.setupEnds, State.onGuard, h]

theorem State.setupEnds_of_failed (h : s.guard.transfer = .setup) : s.setupEnds false = s.transferFailed := by
  simp [State.setupEnds, h]

theorem State.readEnds_of_ne (h : s.guard.transfer ≠ .read) (sample : Option Sample) : s.readEnds sample = s := if_pos h

theorem State.readEnds_of_failed (h : s.guard.transfer = .read) : s.readEnds none = s.transferFailed := by
  simp [State.readEnds, h]

/-! ## The settle timer (R94) -/

theorem State.settleExpiry_of_ne (h : s.guard.settle ≠ some 0) : s.settleExpiry = s :=
  if_neg (by simp [timerEnded_of_ne h])

theorem State.settleExpiry_of_ended (hs : s.guard.state = .settle) (h : s.guard.settle = some 0) :
    s.settleExpiry = State.powerUpCheck (State.raise .settled { s with
      guard := { s.guard with
        state := .calm, run := 0, settle := none, fallMs := 0, episode := { s.guard.episode with isOpen := false } } }) := by
  have hended : s.settleExpiry = ((s.onGuard fun g =>
      { g.closeEpisode with settle := none, run := 0 }).raise .settled).guardEnters .calm :=
    if_pos ⟨by simp [timerEnded, h], hs⟩
  rw [hended, State.guardEnters_of_ne (by simp [Guard.closeEpisode, hs]), State.onGuard_raise, State.onGuard_onGuard]
  simp only [State.onGuard, Guard.closeEpisode_eq, hs]
  rfl

/-- Settles O36: each expiry and completion by what it leaves (`State.sampleExpiry_of_free`, `State.setupEnds_of_good`,
`State.settleExpiry_of_ended`), and the transfers as they are listed. -/
theorem samplingAndSettlingRunOnTimers : Obligations.SamplingAndSettlingRunOnTimers := by
  refine ⟨fun s hm => ⟨fun h ht => ?_, fun h => ?_, fun h => ?_, fun a b c d h => ?_, fun a b c data h => ?_⟩,
    ⟨rfl, rfl, rfl⟩, fun s hm => ⟨fun hs h => ?_, fun h => ?_⟩⟩
  · exact becomes_of_eq (f := State.sampleExpiry) rfl hm (State.sampleExpiry_of_free h ht) rfl rfl
  · exact exec_of_idle (f := State.sampleExpiry) rfl (State.sampleExpiry_of_ne h)
  · exact becomes_of_eq (f := State.setupEnds true) rfl hm (State.setupEnds_of_good h) rfl rfl
  · exact exec_of_idle (f := State.setupEnds (setupGood a b c d)) rfl (State.setupEnds_of_ne h _)
  · exact exec_of_idle rfl (State.readEnds_of_ne h (judgedSample s.guard.ff s.guard.fi a b c data))
  · exact becomes_of_eq (f := State.settleExpiry) rfl hm (State.settleExpiry_of_ended hs h) (by simp) (by simp)
  · exact exec_of_idle (f := State.settleExpiry) rfl (State.settleExpiry_of_ne h)

/-! ## Samples missed (R77 to R80) -/

theorem judgedSample_of_failed {ff fi : Nat} {x y z : Bool} {data : List Byte}
    (h : (x && y && z) = false ∨ data.length < 6) : judgedSample ff fi x y z data = none := by
  refine if_pos ?_
  rcases h with h | h <;> simp [readFailed, h]

theorem State.transferFailed_eq (s : State) : s.transferFailed = State.missSample { s with guard := { s.guard with
    transfer := .none, setupPending := s.guard.setupPending || s.guard.state == .blind } } := rfl

theorem State.missSample_of_blind (h : s.guard.state = .blind) : s.missSample = s := if_pos h

theorem State.missSample_of_few (hs : s.guard.state ≠ .blind) (h : s.guard.misses < 2) :
    s.missSample = { s with guard := { s.guard with misses := s.guard.misses + 1 } } :=
  (if_neg hs).trans (if_neg (by omega))

/-- R80: the third missed sample. -/
theorem State.missSample_of_third (hs : s.guard.state ≠ .blind) (h : 2 ≤ s.guard.misses) :
    s.missSample = State.powerUpCheck (State.raise .sensor { s with
      guard := { s.guard with
        state := .blind, run := 0, settle := none, setupPending := true, misses := 3, fallMs := 0,
        episode := { s.guard.episode with
          isOpen := false,
          duration := if s.guard.state = .falling
            then min 65535 (s.guard.episode.duration + s.guard.fallMs) else s.guard.episode.duration } } }) := by
  have hblind : s.missSample = s.enterBlind := (if_neg hs).trans (if_pos (by omega))
  rw [hblind, State.enterBlind, State.guardEnters_of_ne (s := (s.onGuard Guard.goBlind).raise .sensor) hs, State.onGuard_raise, State.onGuard_onGuard]
  simp only [State.onGuard, Guard.goBlind, Guard.closeEpisode_eq]

/-- What a command that misses a sample leaves, given the guard it misses the sample in. -/
theorem becomes_of_missed {f : State → State} {g : Guard} (he : exec c s = .next (s.event f))
    (hm : s.supply.mode ≠ .retain) (hf : f s = State.missSample { s with guard := g }) (hstate : g.state = s.guard.state)
    (hmisses : g.misses = s.guard.misses) (hepisode : g.episode = s.guard.episode) (hfall : g.fallMs = s.guard.fallMs) :
    (s.guard.state ≠ .blind → s.guard.misses < 2 →
      Becomes c s { s with guard := { g with misses := s.guard.misses + 1 } }) ∧
    (s.guard.state ≠ .blind → 2 ≤ s.guard.misses →
      Becomes c s
        ((State.raise .sensor { s with
          guard := { g with
            state := .blind, run := 0, settle := none, setupPending := true, misses := 3, fallMs := 0,
            episode := { s.guard.episode with
              isOpen := false,
              duration := if s.guard.state = .falling
                then min 65535 (s.guard.episode.duration + s.guard.fallMs) else s.guard.episode.duration } } }).powerUpCheck)) ∧
    (s.guard.state = .blind → Becomes c s { s with guard := g }) := by
  rw [← hstate, ← hmisses, ← hepisode, ← hfall]
  refine ⟨fun hs h => ?_, fun hs h => ?_, fun hs => ?_⟩
  · exact becomes_of_eq he hm (hf.trans (State.missSample_of_few (s := { s with guard := g }) hs h)) rfl rfl
  · exact becomes_of_eq he hm (hf.trans (State.missSample_of_third (s := { s with guard := g }) hs h)) (by simp) (by simp)
  · exact becomes_of_eq he hm (hf.trans (State.missSample_of_blind (s := { s with guard := g }) hs)) rfl rfl

/-- Settles O37: the three kinds of a missed sample all end in `State.missSample` (`becomes_of_missed`). -/
theorem threeMissesBlind : Obligations.ThreeMissesBlind := by
  intro s c g hm h
  rcases h with ⟨rfl, ht, hbusy, rfl⟩ | ⟨x, y, z, v, rfl, hbad, hsetup, rfl⟩ | ⟨x, y, z, data, rfl, hbad, hread, rfl⟩
  · exact becomes_of_missed (f := State.sampleExpiry) rfl hm (State.sampleExpiry_of_busy ht hbusy) rfl rfl rfl rfl
  · have hfailed : s.setupEnds (setupGood x y z v) = s.transferFailed := by
      rw [setupGood, hbad, State.setupEnds_of_failed hsetup]
    exact becomes_of_missed (f := State.setupEnds (setupGood x y z v)) rfl hm (hfailed.trans s.transferFailed_eq)
      rfl rfl rfl rfl
  · have hfailed : s.readEnds (judgedSample s.guard.ff s.guard.fi x y z data) = s.transferFailed := by
      rw [judgedSample_of_failed hbad, State.readEnds_of_failed hread]
    exact becomes_of_missed (f := State.readEnds (judgedSample s.guard.ff s.guard.fi x y z data)) rfl hm
      (hfailed.trans s.transferFailed_eq) rfl rfl rfl rfl

end Sys2Proof.Machine

/-! A good sample in each guard state, but for the knock and the fall. -/

namespace Sys2Proof.Machine

variable {s u : State} {p : Sample} {m2 : Nat} {cls : SampleClass}

/-! ## The sample in the state the guard is in (R81, R87) -/

theorem State.takeSample_calm (h : s.guard.state = .calm) : s.takeSample m2 cls = s.sampleInCalm m2 cls := by
  simp only [State.takeSample, State.leaveBlind_of_seeing (show s.guard.state ≠ .blind by simp [h]), h]

theorem State.takeSample_watch (h : s.guard.state = .watch) : s.takeSample m2 cls = s.sampleInWatch m2 cls := by
  simp only [State.takeSample, State.leaveBlind_of_seeing (show s.guard.state ≠ .blind by simp [h]), h]

theorem State.takeSample_falling (h : s.guard.state = .falling) : s.takeSample m2 cls = s.sampleInFalling cls := by
  simp only [State.takeSample, State.leaveBlind_of_seeing (show s.guard.state ≠ .blind by simp [h]), h]

theorem State.takeSample_settle (h : s.guard.state = .settle) : s.takeSample m2 cls = s.sampleInSettle m2 cls := by
  simp only [State.takeSample, State.leaveBlind_of_seeing (show s.guard.state ≠ .blind by simp [h]), h]

/-- R81, R107: the state in which the guard takes its first good sample after BLIND. -/
def State.seeing (s : State) : State :=
  State.powerUpCheck (State.raise .sensor { s with guard := { s.guard with state := .calm } })

theorem State.seeing_guard (s : State) : s.seeing.guard = { s.guard with state := .calm } := by
  simp [State.seeing]

theorem State.takeSample_blind (h : s.guard.state = .blind) : s.takeSample m2 cls = s.seeing.sampleInCalm m2 cls := by
  have hseeing : s.leaveBlind = s.seeing := by
    refine (if_pos h).trans ?_
    rw [State.guardEnters_of_ne (s := s.raise .sensor) (by simp [h]), State.onGuard_raise]
    rfl
  have hcalm : s.seeing.guard.state = .calm := by rw [State.seeing_guard]
  simp only [State.takeSample, hseeing, hcalm]

/-! ## A run that goes on (R88, R89, R92, R93) -/

/-- A LOW sample that does not complete the run. -/
theorem State.lowSample_of_lt {next : GuardState} (h : s.guard.run + 1 < s.guard.nf) (h1 : next ≠ .calm)
    (h2 : next ≠ .blind) :
    s.lowSample m2 next = { s with guard := { s.guard with run := s.guard.run + 1, state := next } } := by
  refine (if_neg (Nat.not_le.mpr h)).trans ?_
  rw [State.guardEnters_of_not_permits h1 h2]
  rfl

theorem State.sampleInCalm_low (h : 1 < s.guard.nf) :
    s.sampleInCalm m2 .low = { s with guard := { s.guard with run := 1, state := .watch } } :=
  State.lowSample_of_lt (s := s.setRun 0) h nofun nofun

theorem State.landed_eq (s : State) : s.landed = { s with guard := { s.guard with
    state := .settle, run := 0, fallMs := 0, settle := some s.guard.settleTime,
    episode := { s.guard.episode with duration := min 65535 (s.guard.episode.duration + s.guard.fallMs) } } } := by
  rw [State.landed, State.guardEnters_of_not_permits (g := .settle) nofun nofun]
  rfl

/-- R92: an IMPACT sample in FALLING, or the NORMAL sample that completes the run. -/
theorem State.sampleInFalling_landed (h : cls = .impact ∨ (cls = .normal ∧ s.guard.nf ≤ s.guard.run + 1)) :
    s.sampleInFalling cls = s.landed := by
  rcases h with rfl | ⟨rfl, hn⟩
  · rfl
  · exact if_pos hn

/-! ## The samples of a read -/

theorem Guard.goodRead_eq (g : Guard) (p : Sample) : g.goodRead p = { g with
    transfer := .none, misses := 0, lastSample := some p,
    episode := if g.episode.isOpen then { g.episode with peak := max g.episode.peak p.m2 } else g.episode } := rfl

/-- R75, R83, R85: six data bytes under a NORMAL magnitude. -/
theorem Sample.measures_normal {ff fi : Nat} {xh xl yh yl zh zl : Byte} {x y z : Int} (rest : List Byte)
    (hx1 : 16 * x ≤ (xh ++ xl).toInt) (hx2 : (xh ++ xl).toInt < 16 * x + 16) (hy1 : 16 * y ≤ (yh ++ yl).toInt)
    (hy2 : (yh ++ yl).toInt < 16 * y + 16) (hz1 : 16 * z ≤ (zh ++ zl).toInt) (hz2 : (zh ++ zl).toInt < 16 * z + 16)
    (hfi : x * x + y * y + z * z ≤ (fi : Int) * fi) (hff : (ff : Int) * ff ≤ x * x + y * y + z * z) :
    Sample.measures { x := x, y := y, z := z, m2 := (x * x + y * y + z * z).toNat, cls := .normal } ff fi
      (xh :: xl :: yh :: yl :: zh :: zl :: rest) := by
  have hm2 : ((x * x + y * y + z * z).toNat : Int) = x * x + y * y + z * z :=
    Int.toNat_of_nonneg (le_trans (mul_self_nonneg (ff : Int)) hff)
  refine ⟨⟨xh, xl, yh, yl, zh, zl, rest, rfl, hx1, hx2, hy1, hy2, hz1, hz2⟩, hm2, fun h => ?_, fun _ h => ?_,
    fun _ _ => rfl⟩
  · zify at h
    rw [hm2] at h
    exact absurd hfi (not_le.mpr h)
  · zify at h
    rw [hm2] at h
    exact absurd hff (not_le.mpr h)

/-- R107: a change of the guard that the precondition does not read. -/
theorem State.powerUpCheck_onGuard {f : Guard → Guard} (h : (f s.guard).permits = s.guard.permits) :
    (s.onGuard f).powerUpCheck = s.powerUpCheck.onGuard f := by
  have hp : (s.onGuard f).precondition = s.precondition := by
    simp only [State.precondition, State.onGuard_guard, h]
    rfl
  unfold State.powerUpCheck
  rw [hp, State.onGuard_seq]
  split <;> rfl

theorem State.seeing_onGuard_goodRead (s : State) (p : Sample) :
    (s.onGuard (Guard.goodRead p)).seeing = s.seeing.onGuard (Guard.goodRead p) :=
  State.powerUpCheck_onGuard (s := State.raise .sensor { s with guard := { s.guard with state := .calm } })
    (f := Guard.goodRead p) rfl

theorem State.sampleInCalm_link (s : State) (m2 : Nat) (cls : SampleClass) : (s.sampleInCalm m2 cls).link = s.link := by
  cases cls
  case low =>
    simp only [State.sampleInCalm, State.lowSample]
    split
    · simp [State.enterFalling, State.setRun]
    · simp [State.setRun]
  case normal => rfl
  case impact => simp [State.sampleInCalm, State.knock]

/-- R81: a good sample in BLIND is the sample taken in the state the guard then sees. -/
theorem becomes_of_blind {data : List Byte} (hm : s.supply.mode ≠ .retain) (htransfer : s.guard.transfer = .read)
    (hp : p.measures s.guard.ff s.guard.fi data) (hs : s.guard.state = .blind) :
    ∃ t u, exec (.readComplete true true true data) s = .next t ∧ exec (.readComplete true true true data) s.seeing = .next u ∧
      t.blocks = u.blocks ∧ t.link = s.link ∧ s.dozeTimed t := by
  have hsample := Sample.judgedSample_eq hp
  have hseen : s.seeing.readEnds (some p) = s.readEnds (some p) := by
    rw [State.readEnds_of_good (by rw [State.seeing_guard]; exact htransfer), State.readEnds_of_good htransfer,
      State.takeSample_blind (s := s.onGuard (Guard.goodRead p)) hs, State.seeing_onGuard_goodRead, State.takeSample_calm]
    rw [State.onGuard_guard, State.seeing_guard]
    rfl
  have hseenSample : judgedSample s.seeing.guard.ff s.seeing.guard.fi true true true data = some p := by
    rw [State.seeing_guard]
    exact hsample
  have hm' : s.seeing.supply.mode ≠ .retain := by simpa [State.seeing] using hm
  refine ⟨s.event (State.readEnds (some p)), s.seeing.event (State.readEnds (some p)), ?_, ?_, ?_, ?_, ?_⟩
  · rw [← hsample]
    rfl
  · rw [← hseenSample]
    rfl
  · rw [State.event_blocks hm, State.event_blocks hm', hseen]
  · rw [State.event_link hm, State.readEnds_of_good htransfer, State.takeSample_blind (s := s.onGuard (Guard.goodRead p)) hs,
      State.sampleInCalm_link]
    simp [State.seeing]
  · exact State.dozeTimed_event hm (by rw [(s.leavesSupply_readEnds _).supply])

/-- Settles O38: the sample a read measures (`Sample.measures_normal`), and what the guard makes of it in the state it is in
(`becomes_of_sample`, `State.takeSample_calm` and its like); in BLIND it is taken in the state the guard then sees
(`becomes_of_blind`). -/
theorem samplesAreMeasuredAndTaken : Obligations.SamplesAreMeasuredAndTaken := by
  refine ⟨fun s xh xl yh yl zh zl rest x y z hm htransfer hs hx1 hx2 hy1 hy2 hz1 hz2 hfi hff => ?_,
    fun s data p g hm htransfer hp hg => ?_⟩
  · refine becomes_of_sample hm htransfer (Sample.measures_normal rest hx1 hx2 hy1 hy2 hz1 hz2 hfi hff) ?_ rfl
    exact State.takeSample_calm (s := s.onGuard (Guard.goodRead _)) hs
  · subst hg
    have leaves {u : State} (htake : (s.onGuard (Guard.goodRead p)).takeSample p.m2 p.cls = u) (hlink : u.link = s.link) :
        Becomes (.readComplete true true true data) s u := becomes_of_sample hm htransfer hp htake hlink
    intro c run
    set v := s.onGuard (Guard.goodRead p) with hv
    refine ⟨fun hs hc => ?_, fun hs hc hn => ?_, fun hs hc => ?_, fun hs hc => ?_, fun hs hc hn => ?_, fun hs hc => ?_,
      fun hs hc hn => ?_, fun hs hc => ?_, fun hs hc => ?_, fun hs hc => ?_, fun hs hc hr hn => ?_, fun hs => ?_⟩
    · refine leaves ?_ rfl
      rw [hc]
      exact State.takeSample_calm (s := v) hs
    · refine leaves ?_ rfl
      rw [hc]
      rcases hs with hs | hs
      · have hrun : run = 1 := by simp [run, hs]
        rw [hrun] at hn ⊢
        exact (State.takeSample_calm (s := v) hs).trans (State.sampleInCalm_low (s := v) hn)
      · have hrun : run = s.guard.run + 1 := by simp [run, hs]
        rw [hrun] at hn ⊢
        exact (State.takeSample_watch (s := v) hs).trans (State.lowSample_of_lt (s := v) hn nofun nofun)
    · refine leaves ?_ (by simp)
      rw [hc]
      refine (State.takeSample_watch (s := v) hs).trans ?_
      exact State.guardEnters_of_ne (s := v.setRun 0) (by simp [State.setRun, hv, Guard.goodRead, hs])
    · refine leaves ?_ rfl
      rw [hc]
      exact State.takeSample_falling (s := v) hs
    · refine leaves ?_ rfl
      rw [hc]
      exact (State.takeSample_falling (s := v) hs).trans (if_neg (Nat.not_le.mpr hn))
    · refine leaves ?_ rfl
      have hduration : v.guard.episode.duration = s.guard.episode.duration := by
        simp only [hv, State.onGuard_guard, Guard.goodRead, Episode.note_eq]
      refine (State.takeSample_falling (s := v) hs).trans ((State.sampleInFalling_landed (s := v) hc).trans ?_)
      rw [v.landed_eq, hduration]
      rfl
    · refine leaves ?_ rfl
      rw [hc]
      have hrun : run = s.guard.run + 1 := by simp [run, hs]
      rw [hrun] at hn ⊢
      have hsettle : v.guard.state = .settle := hs
      refine (State.takeSample_settle (s := v) hs).trans
        ((State.lowSample_of_lt (s := v) (next := .settle) hn nofun nofun).trans ?_)
      rw [← hsettle]
      rfl
    · refine leaves ?_ rfl
      rw [hc]
      exact State.takeSample_settle (s := v) hs
    · refine leaves ?_ rfl
      rw [hc]
      exact State.takeSample_settle (s := v) hs
    · refine leaves ?_ (by simp)
      rw [hc]
      exact State.takeSample_blind (s := v) hs
    · refine leaves ?_ (by simp)
      rw [hc]
      refine (State.takeSample_blind (s := v) hs).trans ?_
      rw [State.sampleInCalm_low (by rw [State.seeing_guard]; exact hn), State.seeing_guard]
      rfl
    · exact becomes_of_blind hm htransfer hp hs

end Sys2Proof.Machine

/-! A change of SPRS, and the expiry of the doze timer. -/

namespace Sys2Proof.Machine

variable {s : State} {present : Bool}

/-! ## SPRS (R153, R157) -/

theorem State.sprsChanges_of_eq (h : s.supply.present = present) : s.sprsChanges present = s := if_pos h

/-- A change that does not wake the part. -/
theorem State.sprsChanges_of_ne (h : s.supply.present ≠ present) (hwake : ¬(s.supply.mode = .doze ∧ present = true)) :
    s.sprsChanges present =
      ((s.onSupply fun p => { p with present := present }).raise .supply).evaluate s.critical false := by
  simp only [State.sprsChanges, if_neg h, if_neg hwake]

/-- The supply appears in DOZE. -/
theorem State.sprsChanges_of_doze (h : s.supply.present = false) (hm : s.supply.mode = .doze) :
    s.sprsChanges true =
      ((s.leaveDoze.onSupply fun p => { p with present := true }).raise .supply).evaluate s.critical false := by
  have hne : s.supply.present ≠ true := by simp [h]
  simp only [State.sprsChanges, if_neg hne, hm, and_self, if_true]

/-- An SPRS change comes to the evaluation of a state that has the Link Port and the doze timer as they were. -/
theorem becomes_of_evaluate {v : State} {was empty : Bool} (hm : s.supply.mode ≠ .retain)
    (h : s.sprsChanges present = v.evaluate was empty) (hlink : v.link = s.link)
    (hdoze : v.supply.dozeTimer = s.supply.dozeTimer) : Becomes (.sprsChange present) s (v.evaluate was empty) :=
  becomes_of_eq rfl hm h ((State.evaluate_link (s := v) was empty).trans hlink) ((v.supplyStep_evaluate was empty).timer.trans hdoze)

/-! ## The doze timer (R157, R177) -/

theorem State.dozeExpiry_of_ne (h : s.supply.dozeTimer ≠ some 0) : s.dozeExpiry = s :=
  if_neg fun hd => Bool.false_ne_true ((timerEnded_of_ne h).symm.trans hd.1)

theorem State.dozeExpiry_of_ended (h : s.supply.dozeTimer = some 0) (hd : s.dozeCondition = true) :
    s.dozeExpiry = s.enterDoze := if_pos ⟨by rw [h]; rfl, hd⟩

/-- The entry to DOZE has stopped the doze timer, so that the end of the doze condition moves nothing more. -/
theorem State.dozeFollows_enterDoze (s : State) (held : Bool) : s.enterDoze.dozeFollows held = s.enterDoze := by
  have hfails : s.enterDoze.dozeCondition = false := State.dozeCondition_of_not_run (s := s.enterDoze) nofun
  unfold State.dozeFollows
  rw [hfails, if_neg fun h => Bool.false_ne_true h.1]
  split <;> rfl

theorem State.event_dozeExpiry (hd : s.dozeCondition = true) (h : s.supply.dozeTimer = some 0) :
    s.event State.dozeExpiry = s.enterDoze := by
  obtain ⟨hrun, -⟩ := State.dozeCondition_iff.mp hd
  have hm : s.supply.mode ≠ .retain := by simp [hrun]
  rw [State.event, if_neg hm, State.dozeExpiry_of_ended h hd, State.dozeFollows_enterDoze]

/-- R98: a guard in CALM enters DOZE in the state it is in. -/
theorem State.enterDoze_eq (h : s.guard.state = .calm) : s.enterDoze = { s with
    supply := { s.supply with mode := .doze, dozeTimer := none },
    attention := { s.attention with dozeFlag := true },
    guard := { s.guard with
      run := 0, settle := none, transfer := .none, setupPending := true, misses := 0, lastSample := none,
      sampleTimer := none } } := by
  simp only [State.enterDoze, State.onGuard, State.onSupply, State.onAttention, Guard.restart, h]

/-- Settles O47, by the cases of an SPRS change (`State.sprsChanges_of_ne`, `State.sprsChanges_of_doze`) and of the doze
timer's expiry (`State.event_dozeExpiry`). -/
theorem supplyAndDozeChangeTheMode : Obligations.SupplyAndDozeChangeTheMode := by
  refine ⟨fun s present hm => ⟨fun hne hstays => ?_, fun hlow hpresent hdoze => ?_, fun h => ?_⟩,
    fun s => ⟨fun hrun hlow hoff hgrants hcalm hidle htimer => ?_, fun _ htimer => ?_⟩⟩
  · have hwake : ¬(s.supply.mode = .doze ∧ present = true) := by
      rintro ⟨hdoze, rfl⟩
      simp [hdoze] at hstays
    exact becomes_of_evaluate hm (State.sprsChanges_of_ne hne hwake) rfl rfl
  · subst hpresent
    exact becomes_of_evaluate hm (State.sprsChanges_of_doze hlow hdoze) rfl rfl
  · exact exec_of_idle rfl (State.sprsChanges_of_eq h)
  · have hdoze : s.dozeCondition = true := State.dozeCondition_iff.mpr ⟨hrun, hlow, hoff, hgrants, hcalm, hidle⟩
    rw [← State.enterDoze_eq hcalm, ← State.event_dozeExpiry hdoze htimer]
    rfl
  · exact exec_of_idle rfl (State.dozeExpiry_of_ne htimer)

end Sys2Proof.Machine

/-! The phase timer's expiries and the ready line: what each does in each state of the sequencer. -/

namespace Sys2Proof.Machine

variable {s u : State} {c : Instr} {f : State → State}

/-! ## Off demand in READY (R110, R111) -/

/-- R111: the way down, with the grant table empty and with grants outstanding. -/
theorem State.wayDown_eq (s : State) : s.wayDown = { s with
    seq := { s.seq with
      state := if s.grantsEmpty then .unloading else .draining,
      phase := if s.grantsEmpty then some s.seq.unloadTime else none, waited := 0,
      stopCause := if s.seq.target = .off then .target else .battery } } := by
  unfold State.wayDown
  cases s.grantsEmpty <;> rfl

theorem State.readyReached_of_no_demand (h : s.offDemand = false) :
    s.readyReached = (s.onSeq Sequencer.toReady).raise .mechanism :=
  if_neg (Bool.not_eq_true _ ▸ h)

theorem State.readyReached_of_demand (h : s.offDemand = true) :
    s.readyReached = State.raise .mechanism { s with
      seq := { s.seq with
        state := if s.grantsEmpty then .unloading else .draining,
        phase := if s.grantsEmpty then some s.seq.unloadTime else none, waited := 0,
        stopCause := if s.seq.target = .off then .target else .battery } } := by
  have hdown : s.readyReached = ((s.onSeq Sequencer.toReady).raise .mechanism).wayDown := if_pos h
  rw [hdown, State.wayDown_eq]
  rfl

/-! ## The expiries of the phase timer (R104, R177) -/

theorem State.phaseExpiry_of_not {state : SeqState} (h : s.seq.phase ≠ some 0 ∨ s.seq.state ≠ state) (f : State → State) :
    s.phaseExpiry state f = s := by
  refine if_neg fun hends => ?_
  obtain ⟨hstate, hended⟩ := hends
  rcases h with hphase | hne
  · exact Bool.false_ne_true ((timerEnded_of_ne hphase).symm.trans hended)
  · exact hne hstate

theorem State.phaseExpiry_of_ended {state : SeqState} (hphase : s.seq.phase = some 0) (hstate : s.seq.state = state)
    (f : State → State) : s.phaseExpiry state f = f s :=
  if_pos ⟨hstate, by rw [hphase]; rfl⟩

/-- The expiry of the phase timer in its own state does the work of that state. -/
theorem becomes_of_phaseExpiry {state : SeqState} (he : exec c s = .next (s.event (State.phaseExpiry state f)))
    (hm : s.supply.mode ≠ .retain) (hphase : s.seq.phase = some 0) (hstate : s.seq.state = state) (h : f s = u)
    (hlink : u.link = s.link) (hdoze : u.supply.dozeTimer = s.supply.dozeTimer) : Becomes c s u :=
  becomes_of_eq he hm ((State.phaseExpiry_of_ended hphase hstate f).trans h) hlink hdoze

theorem State.supplySettles_of_released (h : s.pins.drdy = false) : s.supplySettles = s.onSeq Sequencer.toSpinning :=
  if_neg (Bool.not_eq_true _ ▸ h)

theorem State.supplySettles_of_asserted (h : s.pins.drdy = true) :
    s.supplySettles = (s.onSeq Sequencer.toSpinning).readyReached :=
  if_pos h

theorem State.enterCycleWait_of_delay (h : s.seq.cycleDelay ≠ 0) :
    s.enterCycleWait = s.onSeq Sequencer.toCycleWait :=
  if_neg h

theorem State.enterCycleWait_of_no_delay (h : s.seq.cycleDelay = 0) :
    s.enterCycleWait = (s.onSeq Sequencer.toCycleWait).offReached :=
  if_pos h

/-- Settles O41: in its own state an expiry does that state's work (`becomes_of_phaseExpiry`), and elsewhere it does not
happen (`State.phaseExpiry_of_not`). -/
theorem phasesFollowInOrder : Obligations.PhasesFollowInOrder := by
  intro s hm
  have idle {c : Instr} {state : SeqState} {f : State → State} (he : exec c s = .next (s.event (State.phaseExpiry state f)))
      (h : s.seq.phase ≠ some 0 ∨ s.seq.state ≠ state) : exec c s = .next s :=
    exec_of_idle he (State.phaseExpiry_of_not h f)
  refine ⟨fun hphase => ⟨fun hs hdrdy => ?_, fun hs hdrdy hdemand => ?_, fun hs hdrdy hdemand => ?_, fun hs => ?_,
    fun hs => ?_, fun hs hdelay => ?_, fun hs hdelay => ?_, fun hs => ?_⟩,
    idle rfl, idle rfl, idle rfl, idle rfl, idle rfl⟩
  · exact becomes_of_phaseExpiry rfl hm hphase hs (State.supplySettles_of_released hdrdy) rfl rfl
  · refine becomes_of_phaseExpiry rfl hm hphase hs (State.supplySettles_of_asserted hdrdy |>.trans ?_) rfl rfl
    exact State.readyReached_of_no_demand (s := s.onSeq Sequencer.toSpinning) hdemand
  · refine becomes_of_phaseExpiry rfl hm hphase hs (State.supplySettles_of_asserted hdrdy |>.trans ?_) rfl rfl
    exact State.readyReached_of_demand (s := s.onSeq Sequencer.toSpinning) hdemand
  · exact becomes_of_phaseExpiry rfl hm hphase hs rfl rfl rfl
  · exact becomes_of_phaseExpiry rfl hm hphase hs rfl rfl rfl
  · exact becomes_of_phaseExpiry rfl hm hphase hs (State.enterCycleWait_of_delay hdelay) rfl rfl
  · exact becomes_of_phaseExpiry rfl hm hphase hs (State.enterCycleWait_of_no_delay hdelay) (by simp) (by simp)
  · exact becomes_of_phaseExpiry (u := s.offReached) rfl hm hphase hs rfl (by simp) (by simp)

/-! ## The ready line (R110, R117) -/

/-- An event that comes with a change of DRDY: neither the doze condition nor the Link Port reads the line. -/
theorem becomes_of_drdy {level : Bool} (he : exec c s = .next ((s.setDrdy level).event f)) (hm : s.supply.mode ≠ .retain)
    (h : f (s.setDrdy level) = u) (hlink : u.link = s.link) (hdoze : u.supply.dozeTimer = s.supply.dozeTimer) :
    Becomes c s u := by
  subst h
  have hm' : (s.setDrdy level).supply.mode ≠ .retain := hm
  exact ⟨_, he, State.event_blocks hm', (State.event_link hm').trans hlink, State.dozeTimed_event hm' hdoze⟩

theorem State.drdyRises_of_spinning (h : s.seq.state = .spinning) : s.drdyRises = s.readyReached := if_pos h

theorem State.drdyRises_of_ne (h : s.seq.state ≠ .spinning) : s.drdyRises = s := if_neg h

theorem State.drdyFalls_of_up (h : s.seq.state = .ready ∨ s.seq.state = .draining) :
    s.drdyFalls = State.raise .mechanism { s with
      seq := { s.seq with
        state := .unloading, phase := some s.seq.unloadTime, waited := 0, fault := .readyLost, target := .off,
        stopCause := .readyLost } } := by
  rcases h with h | h <;> simp only [State.drdyFalls, h] <;> rfl

theorem State.drdyFalls_of_ne (h1 : s.seq.state ≠ .ready) (h2 : s.seq.state ≠ .draining) : s.drdyFalls = s := by
  unfold State.drdyFalls
  split
  next h => exact absurd h h1
  next h => exact absurd h h2
  all_goals rfl

/-- Settles O43: DRDY acts in SPINNING when it rises (`State.drdyRises_of_spinning`) and in READY and DRAINING when it falls
(`State.drdyFalls_of_up`). -/
theorem readyLineMovesTheSequencer : Obligations.ReadyLineMovesTheSequencer := by
  intro s hm high low cause
  have rises {u : State} (hs : s.seq.state = .spinning) (h : high.readyReached = u) (hlink : u.link = s.link)
      (hdoze : u.supply.dozeTimer = s.supply.dozeTimer) : Becomes .drdyAsserted s u :=
    becomes_of_drdy rfl hm ((State.drdyRises_of_spinning (s := high) hs).trans h) hlink hdoze
  have hgrants : high.grantsEmpty = s.grantsEmpty := rfl
  refine ⟨fun hs => ⟨fun hdemand => ?_, fun hdemand hempty => ?_, fun hdemand hfull => ?_⟩, fun hs => ?_, fun hs => ?_,
    fun h1 h2 => ?_⟩
  · exact rises hs (State.readyReached_of_no_demand (s := high) hdemand) rfl rfl
  · have hdown := State.readyReached_of_demand (s := high) hdemand
    rw [hgrants, hempty] at hdown
    exact rises hs hdown rfl rfl
  · have hdown := State.readyReached_of_demand (s := high) hdemand
    rw [hgrants, hfull] at hdown
    exact rises hs hdown rfl rfl
  · exact becomes_of_drdy rfl hm (State.drdyRises_of_ne (s := high) hs) rfl rfl
  · exact becomes_of_drdy rfl hm (State.drdyFalls_of_up (s := low) hs) rfl rfl
  · exact becomes_of_drdy rfl hm (State.drdyFalls_of_ne (s := low) h1 h2) rfl rfl

end Sys2Proof.Machine

/-! SET-TARGET: the target a byte names, and what the sequencer does on it in each of its states. -/

namespace Sys2Proof.Machine

variable {s u : State} {a : Answer} {p : List Byte} {b : Byte} {target : Target}

/-! ## The request -/

theorem setTarget_serves (hl : s.listens) (hp : p.length ≤ 80) (h : serveSetTarget p s = (u, a)) :
    Serves (.setTarget p) s u a :=
  serves_of_serve rfl (unlinked_setTarget p) (by decide) hl hp h

theorem targetOf_of_gt {n : Nat} (h : 1 < n) : targetOf n = none := by
  match n, h with
  | _ + 2, _ => rfl

/-- The target a byte names is ON for 1 and OFF for 0. -/
theorem exists_targetOf (h : b.toNat ≤ 1) :
    ∃ target, targetOf b.toNat = some target ∧ decide (b = 1) = decide (target = .on) := by
  have hb : b = 0 ∨ b = 1 := by bv_omega
  rcases hb with rfl | rfl
  · exact ⟨.off, rfl, rfl⟩
  · exact ⟨.on, rfl, rfl⟩

theorem serveSetTarget_of_none (h : targetOf b.toNat = none) : serveSetTarget [b] s = (s, refusal .badArg) := by
  simp only [serveSetTarget, readByte, Option.bind_some, h, State.unchanged]

theorem serveSetTarget_of_some (h : targetOf b.toNat = some target) :
    serveSetTarget [b] s = (s.setTarget target, (s.setTarget target).targetAnswer) := by
  simp only [serveSetTarget, readByte, Option.bind_some, h]

/-- A SET-TARGET that leaves this sequencer answers its state, target and latch. -/
theorem serves_setTarget {q : Sequencer} (hl : s.listens) (hb : targetOf b.toNat = some target)
    (h : s.setTarget target = { s with seq := q }) :
    Serves (.setTarget [b]) s { s with seq := q } (okAnswer (be1 q.state.code ++ be1 q.target.code ++ be1 q.fault.code)) :=
  setTarget_serves hl (by simp) (by rw [serveSetTarget_of_some hb, h]; rfl)

/-! ## The target just given (R105, R107, R111) -/

theorem Sequencer.aim_state (target : Target) (q : Sequencer) : (q.aim target).state = q.state := by
  rw [Sequencer.aim_eq]

theorem Sequencer.aim_target (target : Target) (q : Sequencer) : (q.aim target).target = target := by
  rw [Sequencer.aim_eq]

theorem State.offDemand_aim : (s.onSeq (Sequencer.aim target)).offDemand = true ↔
    target = .off ∨ (s.supply.level = .critical ∧ s.supply.present = false) := by
  rw [State.offDemand_iff, State.critical_iff, State.onSeq_seq, Sequencer.aim_target]
  rfl

/-- R105, R107: the target ON clears the latch, which leaves the other terms of the precondition. -/
theorem State.precondition_aim : (s.onSeq (Sequencer.aim target)).precondition = true ↔
    target = .on ∧ ¬ (s.supply.level = .critical ∧ s.supply.present = false) ∧
      (s.guard.state = .calm ∨ (s.guard.state = .blind ∧ s.guard.blindPolicy = .proceed)) := by
  rw [State.precondition_iff, State.onSeq_seq, Sequencer.aim_target]
  constructor
  · rintro ⟨htarget, hcritical, hguard, -⟩
    exact ⟨htarget, hcritical, hguard⟩
  · rintro ⟨rfl, hcritical, hguard⟩
    exact ⟨rfl, hcritical, hguard, rfl⟩

/-! ## SET-TARGET in each state of the sequencer (R105 to R112) -/

section
variable (target)

theorem State.setTarget_of_off (h : s.seq.state = .off) :
    s.setTarget target = (s.onSeq (Sequencer.aim target)).powerUpCheck := by
  simp only [State.setTarget, State.actOnTarget, State.onSeq_seq, Sequencer.aim_state, h]

theorem State.setTarget_of_ready (h : s.seq.state = .ready) : s.setTarget target =
    if target = .off then (s.onSeq (Sequencer.aim target)).wayDown else s.onSeq (Sequencer.aim target) := by
  simp only [State.setTarget, State.actOnTarget, State.onSeq_seq, Sequencer.aim_state, Sequencer.aim_target, h]

theorem State.setTarget_of_draining (h : s.seq.state = .draining) : s.setTarget target =
    if (s.onSeq (Sequencer.aim target)).offDemand then s.onSeq (Sequencer.aim target)
    else (s.onSeq (Sequencer.aim target)).onSeq Sequencer.toReady := by
  simp only [State.setTarget, State.actOnTarget, State.onSeq_seq, Sequencer.aim_state, h]

theorem State.setTarget_elsewhere (h1 : s.seq.state ≠ .off) (h2 : s.seq.state ≠ .ready) (h3 : s.seq.state ≠ .draining) :
    s.setTarget target = s.onSeq (Sequencer.aim target) := by
  have hstate : (s.onSeq (Sequencer.aim target)).seq.state = s.seq.state := Sequencer.aim_state target s.seq
  unfold State.setTarget State.actOnTarget
  split
  next h => exact absurd (hstate.symm.trans h) h1
  next h => exact absurd (hstate.symm.trans h) h2
  next h => exact absurd (hstate.symm.trans h) h3
  all_goals rfl

end

/-- Settles O40, by the states of the sequencer (`State.setTarget_of_off`, `State.setTarget_of_ready`,
`State.setTarget_of_draining`, `State.setTarget_elsewhere`). -/
theorem targetIsSet : Obligations.TargetIsSet := by
  intro s b hl on q criticalOnBattery guardAllows ends
  refine ⟨fun hb => setTarget_serves hl (by simp) (serveSetTarget_of_none (targetOf_of_gt hb)), fun hb => ?_⟩
  obtain ⟨target, htarget, hon⟩ := exists_targetOf hb
  have hq : q = s.seq.aim target := by
    change (if on = true then _ else _) = _
    rw [show on = decide (target = .on) from hon]
    cases target <;> rfl
  have on_iff : on = true ↔ target = .on := by
    rw [show on = decide (target = .on) from hon, decide_eq_true_iff]
  have off_iff : on = false ↔ target = .off := by
    rw [show on = decide (target = .on) from hon]
    cases target <;> simp
  have served {r : Sequencer} (h : s.setTarget target = { s with seq := r }) : ends r := serves_setTarget hl htarget h
  rw [hq, on_iff, off_iff]
  refine ⟨fun hs => ⟨fun h1 h2 h3 => served ?_, fun h => served ?_⟩,
    fun hs => ⟨fun h => served ?_, fun h hempty => served ?_, fun h hfull => served ?_⟩,
    fun hs => ⟨fun h1 h2 => served ?_, fun h => served ?_⟩, fun h1 h2 h3 => served ?_⟩
  · rw [State.setTarget_of_off target hs,
      State.powerUpCheck_of_precondition ((Sequencer.aim_state target s.seq).trans hs) (State.precondition_aim.mpr ⟨h1, h2, h3⟩)]
    rfl
  · rw [State.setTarget_of_off target hs, State.powerUpCheck_of_not]
    · rfl
    · rintro ⟨-, hpre⟩
      obtain ⟨h1, h2, h3⟩ := State.precondition_aim.mp hpre
      rcases h with h | h | h
      · cases h1.symm.trans h
      · exact h2 h
      · exact h h3
  · rw [State.setTarget_of_ready target hs, h]
    rfl
  · subst h
    rw [State.setTarget_of_ready .off hs, if_pos rfl, State.wayDown_eq]
    have hgrants : (s.onSeq (Sequencer.aim .off)).grantsEmpty = true := State.grantsEmpty_iff.mpr hempty
    rw [hgrants]
    rfl
  · subst h
    rw [State.setTarget_of_ready .off hs, if_pos rfl, State.wayDown_eq]
    have hgrants : (s.onSeq (Sequencer.aim .off)).grantsEmpty = false := by
      rw [← Bool.not_eq_true, State.grantsEmpty_iff]
      exact not_forall.mpr hfull
    rw [hgrants]
    rfl
  · rw [State.setTarget_of_draining target hs, if_neg]
    · rfl
    · rw [State.offDemand_aim]
      rintro (h | h)
      · cases h1.symm.trans h
      · exact h2 h
  · rw [State.setTarget_of_draining target hs, if_pos (State.offDemand_aim.mpr h)]
    rfl
  · exact State.setTarget_elsewhere target h1 h2 h3

end Sys2Proof.Machine

/-! READ-PARAM, and the parameters through the shared operations and the events: each leaves `State.parameterTable` as it
was. -/

namespace Sys2Proof.Machine

/-! ## READ-PARAM (R207) -/

section
variable {s u : State} {a : Answer} {p : List Byte} {n : Byte} {v : Nat}

/-- The parameters in the order of their numbers. -/
def Param.all : List Param :=
  [.mediaLimit, .unmappedPolicy, .grantTimeout, .samplePeriod, .ff, .fi, .nf, .settleTime, .blindPolicy, .supplySettle,
   .spinTimeout, .unloadTime, .spinDown, .cycleDelay, .gaugePeriod, .currentScale, .capacity, .vEmpty, .vFull, .taper,
   .slewStep, .rPark, .rEntry, .hyst, .dozeDelay, .mask]

theorem Param.mem_all (q : Param) : q ∈ Param.all := by cases q <;> decide

theorem Param.toNat_ofNat_number (q : Param) : (BitVec.ofNat 8 q.number).toNat = q.number := by cases q <;> rfl

theorem State.parameterTable_eq_map (s : State) :
    s.parameterTable = Param.all.map fun q => (BitVec.ofNat 8 q.number, s.paramValue q) := rfl

/-- The table holds each parameter's value under its number. -/
theorem State.mem_parameterTable_iff :
    (n, v) ∈ s.parameterTable ↔ ∃ q : Param, n.toNat = q.number ∧ s.paramValue q = v := by
  simp only [State.parameterTable_eq_map, List.mem_map, Prod.mk.injEq]
  constructor
  · rintro ⟨q, -, rfl, hv⟩
    exact ⟨q, q.toNat_ofNat_number, hv⟩
  · rintro ⟨q, hn, hv⟩
    exact ⟨q, q.mem_all, BitVec.eq_of_toNat_eq (q.toNat_ofNat_number.trans hn.symm), hv⟩

theorem readParam_serves (hl : s.listens) (hp : p.length ≤ 80) (h : serveReadParam p s = (u, a)) :
    Serves (.readParam p) s u a :=
  serves_of_serve rfl (unlinked_readParam p) (by decide) hl hp h

theorem serveReadParam_of_number {q : Param} (h : n.toNat = q.number) :
    serveReadParam [n] s = (s, okAnswer (n :: be4 (s.paramValue q))) := by
  have hbyte : be1 n.toNat = [n] := by rw [be1, BitVec.ofNat_toNat, BitVec.setWidth_eq]
  have hparam : paramOf n.toNat = some q := by rw [h, paramOf_number]
  simp only [serveReadParam, readByte, hparam, paramBytes, hbyte, List.cons_append, List.nil_append, State.unchanged]

theorem serveReadParam_of_no_number (h : paramOf n.toNat = none) : serveReadParam [n] s = (s, refusal .badArg) := by
  simp only [serveReadParam, readByte, h, State.unchanged]

/-- R207: a number not in the table names no parameter. -/
theorem paramOf_eq_none (h : ∀ v, (n, v) ∉ s.parameterTable) : paramOf n.toNat = none := by
  cases hq : paramOf n.toNat with
  | none => rfl
  | some q => exact absurd (State.mem_parameterTable_iff.mpr ⟨q, number_of_paramOf hq, rfl⟩) (h (s.paramValue q))

/-- The table holds the timing parameters of the sequencer. -/
theorem State.timing_of_parameterTable {t : State} (h : t.parameterTable = s.parameterTable) :
    t.seq.timing = s.seq.timing := by
  simp only [State.parameterTable, List.cons.injEq, Prod.mk.injEq, true_and] at h
  obtain ⟨-, -, -, -, -, -, -, -, -, hsettle, hspin, hunload, hdown, hdelay, -⟩ := h
  simp only [Sequencer.timing, hsettle, hspin, hunload, hdown, hdelay]

end

/-! ## The shared operations -/

/-- The parameters of the guard. -/
def Guard.settings (g : Guard) : Nat × Nat × Nat × Nat × Nat × BlindPolicy :=
  (g.samplePeriod, g.ff, g.fi, g.nf, g.settleTime, g.blindPolicy)

section
variable (s : State)

theorem State.onGuard_parameterTable {f : Guard → Guard} (h : (f s.guard).settings = s.guard.settings) :
    (s.onGuard f).parameterTable = s.parameterTable := by
  simp only [Guard.settings, Prod.mk.injEq] at h
  obtain ⟨hperiod, hff, hfi, hnf, hsettle, hblind⟩ := h
  simp [State.parameterTable, hperiod, hff, hfi, hnf, hsettle, hblind]

@[simp] theorem State.raise_parameterTable (c : Cause) : (s.raise c).parameterTable = s.parameterTable := rfl
@[simp] theorem State.onLink_parameterTable (f : Link → Link) : (s.onLink f).parameterTable = s.parameterTable := rfl
@[simp] theorem State.answerWrite_parameterTable (a : Answer) : (s.answerWrite a).parameterTable = s.parameterTable := rfl
@[simp] theorem State.setEntry_parameterTable (i : Fin 64) (e : Entry) :
    (s.setEntry i e).parameterTable = s.parameterTable := rfl
@[simp] theorem State.modifyEntry_parameterTable (i : Fin 64) (f : Entry → Entry) :
    (s.modifyEntry i f).parameterTable = s.parameterTable := rfl
@[simp] theorem State.clearEntry_parameterTable (i : Fin 64) : (s.clearEntry i).parameterTable = s.parameterTable := rfl
@[simp] theorem State.mapEntries_parameterTable (f : Fin 64 → Entry → Entry) :
    (s.mapEntries f).parameterTable = s.parameterTable := by
  simp [State.parameterTable, State.mapEntries]
@[simp] theorem State.joltMarking_parameterTable : s.joltMarking.parameterTable = s.parameterTable :=
  s.mapEntries_parameterTable _
@[simp] theorem State.emergencyUnload_parameterTable : s.emergencyUnload.parameterTable = s.parameterTable := by
  unfold State.emergencyUnload; split <;> rfl
@[simp] theorem State.setGrant_parameterTable (k : Fin 8) (g : Option Grant) :
    (s.setGrant k g).parameterTable = s.parameterTable := rfl
@[simp] theorem State.judged_parameterTable (empty : Bool) : (s.judged empty).parameterTable = s.parameterTable := rfl

@[simp] theorem State.dozeFollows_parameterTable (held : Bool) :
    (s.dozeFollows held).parameterTable = s.parameterTable := by
  unfold State.dozeFollows; (repeat' split) <;> rfl
@[simp] theorem State.powerUpCheck_parameterTable : s.powerUpCheck.parameterTable = s.parameterTable := by
  unfold State.powerUpCheck; split <;> rfl
@[simp] theorem State.wayDown_parameterTable : s.wayDown.parameterTable = s.parameterTable := by
  unfold State.wayDown; split <;> rfl
@[simp] theorem State.readyReached_parameterTable : s.readyReached.parameterTable = s.parameterTable := by
  simp only [State.readyReached]
  split
  · exact State.wayDown_parameterTable _
  · rfl
@[simp] theorem State.offReached_parameterTable : s.offReached.parameterTable = s.parameterTable :=
  State.powerUpCheck_parameterTable _
@[simp] theorem State.enterCycleWait_parameterTable : s.enterCycleWait.parameterTable = s.parameterTable := by
  simp only [State.enterCycleWait]
  split
  · exact State.offReached_parameterTable _
  · rfl
@[simp] theorem State.emptySignal_parameterTable : s.emptySignal.parameterTable = s.parameterTable := by
  unfold State.emptySignal; split <;> rfl
@[simp] theorem State.guardEnters_parameterTable (g : GuardState) :
    (s.guardEnters g).parameterTable = s.parameterTable := by
  simp only [State.guardEnters]
  split
  · rfl
  · exact State.powerUpCheck_parameterTable _
@[simp] theorem State.wakeForPowerUp_parameterTable : s.wakeForPowerUp.parameterTable = s.parameterTable := by
  unfold State.wakeForPowerUp; split <;> rfl
@[simp] theorem State.handCritical_parameterTable (was : Bool) :
    (s.handCritical was).parameterTable = s.parameterTable := by
  unfold State.handCritical
  split
  · split
    · exact s.wayDown_parameterTable
    all_goals rfl
  · split
    · split
      · split <;> rfl
      · exact (State.powerUpCheck_parameterTable _).trans s.wakeForPowerUp_parameterTable
      all_goals rfl
    · rfl
@[simp] theorem State.evaluate_parameterTable (was empty : Bool) :
    (s.evaluate was empty).parameterTable = s.parameterTable := by
  rw [State.evaluate_eq_handCritical, State.handCritical_parameterTable, State.judged_parameterTable]
@[simp] theorem State.openChanged_parameterTable : s.openChanged.parameterTable = s.parameterTable :=
  s.evaluate_parameterTable _ _
@[simp] theorem State.sealEntry_parameterTable (i : Fin 64) : (s.sealEntry i).parameterTable = s.parameterTable := by
  simp only [State.sealEntry]; split <;> simp
@[simp] theorem State.settleEntry_parameterTable (i : Fin 64) : (s.settleEntry i).parameterTable = s.parameterTable := by
  unfold State.settleEntry; (repeat' split) <;> simp
@[simp] theorem State.removeGrant_parameterTable (k : Fin 8) (g : Grant) (f : Entry → Entry) :
    (s.removeGrant k g f).parameterTable = s.parameterTable := by
  simp only [State.removeGrant]; split <;> simp

/-! ## The guard's events -/

theorem State.missSample_parameterTable : s.missSample.parameterTable = s.parameterTable := by
  unfold State.missSample State.enterBlind
  split
  · rfl
  · split
    · exact State.guardEnters_parameterTable _ _
    · rfl
theorem State.transferFailed_parameterTable : s.transferFailed.parameterTable = s.parameterTable :=
  State.missSample_parameterTable _
theorem State.sampleExpiry_parameterTable : s.sampleExpiry.parameterTable = s.parameterTable := by
  simp only [State.sampleExpiry]
  split
  · rfl
  · split
    · exact State.missSample_parameterTable _
    · exact State.missSample_parameterTable _
    · rfl
theorem State.setupEnds_parameterTable (good : Bool) : (s.setupEnds good).parameterTable = s.parameterTable := by
  unfold State.setupEnds
  split
  · rfl
  · split
    · rfl
    · exact s.transferFailed_parameterTable
theorem State.settleExpiry_parameterTable : s.settleExpiry.parameterTable = s.parameterTable := by
  unfold State.settleExpiry
  split
  · exact State.guardEnters_parameterTable _ _
  · rfl

theorem State.knock_parameterTable (m2 : Nat) : (s.knock m2).parameterTable = s.parameterTable := by
  rw [State.knock_eq, State.raise_parameterTable, State.onGuard_parameterTable _ rfl, State.joltMarking_parameterTable]
theorem State.enterFalling_parameterTable (m2 : Nat) : (s.enterFalling m2).parameterTable = s.parameterTable := by
  rw [State.enterFalling, State.guardEnters_parameterTable, State.raise_parameterTable, State.onGuard_parameterTable _ rfl,
    State.joltMarking_parameterTable, State.emergencyUnload_parameterTable]
theorem State.lowSample_parameterTable (m2 : Nat) (next : GuardState) :
    (s.lowSample m2 next).parameterTable = s.parameterTable := by
  unfold State.lowSample
  split
  · exact s.enterFalling_parameterTable m2
  · exact State.guardEnters_parameterTable _ _
theorem State.sampleInCalm_parameterTable (m2 : Nat) (c : SampleClass) :
    (s.sampleInCalm m2 c).parameterTable = s.parameterTable := by
  cases c
  case low => exact State.lowSample_parameterTable _ m2 .watch
  case normal => rfl
  case impact => exact s.knock_parameterTable m2
theorem State.sampleInWatch_parameterTable (m2 : Nat) (c : SampleClass) :
    (s.sampleInWatch m2 c).parameterTable = s.parameterTable := by
  cases c
  case low => exact s.lowSample_parameterTable m2 .watch
  case normal => exact State.guardEnters_parameterTable _ _
  case impact => exact s.knock_parameterTable m2
theorem State.landed_parameterTable : s.landed.parameterTable = s.parameterTable := State.guardEnters_parameterTable _ _
theorem State.sampleInFalling_parameterTable (c : SampleClass) :
    (s.sampleInFalling c).parameterTable = s.parameterTable := by
  cases c
  case low => rfl
  case normal =>
    simp only [State.sampleInFalling]
    split
    · exact s.landed_parameterTable
    · rfl
  case impact => exact s.landed_parameterTable
theorem State.sampleInSettle_parameterTable (m2 : Nat) (c : SampleClass) :
    (s.sampleInSettle m2 c).parameterTable = s.parameterTable := by
  cases c
  case low => exact s.lowSample_parameterTable m2 .settle
  case normal => rfl
  case impact => rfl
theorem State.takeSample_parameterTable (m2 : Nat) (c : SampleClass) :
    (s.takeSample m2 c).parameterTable = s.parameterTable := by
  have hblind : s.leaveBlind.parameterTable = s.parameterTable := by
    unfold State.leaveBlind; split <;> simp
  refine .trans ?_ hblind
  simp only [State.takeSample]
  split
  · exact State.sampleInCalm_parameterTable _ m2 c
  · exact State.sampleInWatch_parameterTable _ m2 c
  · exact State.sampleInFalling_parameterTable _ c
  · exact State.sampleInSettle_parameterTable _ m2 c
  · rfl
theorem State.readEnds_parameterTable (sample : Option Sample) :
    (s.readEnds sample).parameterTable = s.parameterTable := by
  unfold State.readEnds
  split
  · rfl
  · split
    · exact s.transferFailed_parameterTable
    · exact State.takeSample_parameterTable _ _ _

/-! ## The sequencer's events -/

theorem State.supplySettles_parameterTable : s.supplySettles.parameterTable = s.parameterTable := by
  simp only [State.supplySettles]
  split
  · exact State.readyReached_parameterTable _
  · rfl
theorem State.spinTimesOut_parameterTable : s.spinTimesOut.parameterTable = s.parameterTable := rfl
theorem State.unloads_parameterTable : s.unloads.parameterTable = s.parameterTable := rfl
theorem State.drdyRises_parameterTable : s.drdyRises.parameterTable = s.parameterTable := by
  unfold State.drdyRises; split <;> simp
theorem State.drdyFalls_parameterTable : s.drdyFalls.parameterTable = s.parameterTable := by
  unfold State.drdyFalls; split <;> rfl
theorem State.setTarget_parameterTable (target : Target) : (s.setTarget target).parameterTable = s.parameterTable := by
  have haimed : (s.onSeq (Sequencer.aim target)).parameterTable = s.parameterTable := by cases target <;> rfl
  refine .trans ?_ haimed
  unfold State.setTarget State.actOnTarget
  split
  · exact State.powerUpCheck_parameterTable _
  · split
    · exact State.wayDown_parameterTable _
    · rfl
  · split <;> rfl
  all_goals rfl

end

/-! ## The gauge's and the supply's events -/

/-- The parameters of the gauge. -/
def Gauge.settings (g : Gauge) : Nat × Nat × Nat × Nat × Nat × Nat × Nat :=
  (g.period, g.scale, g.capacity, g.vEmpty, g.vFull, g.taper, g.slewStep)

section
variable (g : Gauge)

theorem Gauge.bound_settings (q residue : Int) : (g.bound q residue).settings = g.settings := by
  unfold Gauge.bound; (repeat' split) <;> rfl
theorem Gauge.slew_settings : g.slew.settings = g.settings := by
  unfold Gauge.slew; split <;> rfl
theorem Gauge.report8_settings (corrected : Bool) : (g.report8 corrected).settings = g.settings := by
  unfold Gauge.report8
  split
  · rfl
  · exact g.slew_settings
theorem Gauge.correct_settings (present : Bool) : (g.correct present).1.settings = g.settings := by
  simp only [Gauge.correct]
  split
  · exact Gauge.report8_settings _ _
  · split <;> exact Gauge.report8_settings _ _
theorem Gauge.periodEnd_settings (code volts : BitVec 16) (present : Bool) :
    (g.periodEnd code volts present).1.settings = g.settings := by
  have hreload (r : Gauge) : r.reload.settings = r.settings := rfl
  simp only [Gauge.periodEnd, hreload]
  split
  · rfl
  · exact (Gauge.correct_settings _ present).trans (Gauge.bound_settings _ _ _)

end

section
variable (s : State)

theorem State.onGauge_parameterTable {f : Gauge → Gauge} (h : (f s.gauge).settings = s.gauge.settings) :
    (s.onGauge f).parameterTable = s.parameterTable := by
  simp only [Gauge.settings, Prod.mk.injEq] at h
  obtain ⟨hperiod, hscale, hcapacity, hempty, hfull, htaper, hslew⟩ := h
  simp [State.parameterTable, hperiod, hscale, hcapacity, hempty, hfull, htaper, hslew]

theorem State.periodEnds_parameterTable (code volts : BitVec 16) :
    (s.periodEnds code volts).parameterTable = s.parameterTable := by
  simp only [State.periodEnds]
  split
  · rfl
  · exact (State.evaluate_parameterTable _ _ _).trans (s.onGauge_parameterTable (Gauge.periodEnd_settings _ _ _ _))
theorem State.setCharge_parameterTable (mAh : Nat) : (s.setCharge mAh).parameterTable = s.parameterTable :=
  State.evaluate_parameterTable _ _ _
theorem State.sprsChanges_parameterTable (present : Bool) :
    (s.sprsChanges present).parameterTable = s.parameterTable := by
  simp only [State.sprsChanges]
  split
  · rfl
  · rw [State.evaluate_parameterTable]
    split <;> rfl
theorem State.dozeExpiry_parameterTable : s.dozeExpiry.parameterTable = s.parameterTable := by
  unfold State.dozeExpiry; split <;> rfl
theorem State.expireGrant_parameterTable (k : Fin 8) : (s.expireGrant k).parameterTable = s.parameterTable := by
  unfold State.expireGrant; (repeat' split) <;> simp

/-! ## The link's events -/

theorem State.answerFormed_parameterTable : s.answerFormed.parameterTable = s.parameterTable := by
  unfold State.answerFormed; split <;> rfl
theorem State.wakingEnds_parameterTable : s.wakingEnds.parameterTable = s.parameterTable := by
  unfold State.wakingEnds; split <;> rfl
theorem State.addressByte_parameterTable (address : BitVec 7) (dir : Dir) :
    (s.addressByte address dir).parameterTable = s.parameterTable := by
  simp only [State.addressByte]; (repeat' split) <;> rfl

/-! ## Events as the commands give them -/

variable {s}

theorem State.phaseExpiry_parameterTable {f : State → State} (h : (f s).parameterTable = s.parameterTable)
    (state : SeqState) : (s.phaseExpiry state f).parameterTable = s.parameterTable := by
  unfold State.phaseExpiry
  split
  · exact h
  · rfl

theorem State.event_parameterTable {f : State → State} (h : (f s).parameterTable = s.parameterTable) :
    (s.event f).parameterTable = s.parameterTable := by
  unfold State.event
  split
  · rfl
  · rw [State.dozeFollows_parameterTable, h]

theorem State.onBus_parameterTable {f : State → State} (h : (f s).parameterTable = s.parameterTable) (c : Instr) :
    (s.onBus c f).parameterTable = s.parameterTable := by
  unfold State.onBus
  split
  · exact State.event_parameterTable rfl
  · exact State.event_parameterTable h

end

end Sys2Proof.Machine

/-! What every command does to the parameters: only SET-PARAM and a cold start move one, and SET-PARAM moves a sequencer timing
parameter in OFF and CYCLE_WAIT alone. -/

namespace Sys2Proof.Machine

variable {s t : State}

/-! ## The transfers -/

/-- The sequencer and the parameters of every block stand. -/
structure State.SameSetup (s t : State) : Prop where
  seq : t.seq = s.seq
  parameters : t.parameterTable = s.parameterTable

/-- A transfer leaves the sequencer and the parameters to its `rest`, where it comes to that. -/
theorem State.transfer_setup (s : State) (c : Instr) (dir : Dir) (lost start : Link → Link) (rest : State → State) :
    s.SameSetup (s.transfer c dir lost start rest) ∨
      ∃ b, s.SameSetup b ∧ (rest b).SameSetup (s.transfer c dir lost start rest) := by
  unfold State.transfer
  split
  · exact .inl ⟨rfl, rfl⟩
  · split
    · refine .inl ⟨?_, State.event_parameterTable rfl⟩
      unfold State.event
      split <;> simp
    · split
      · exact .inl ⟨rfl, rfl⟩
      · split
        · exact .inl ⟨by simp, State.dozeFollows_parameterTable _ _⟩
        · split
          · exact .inl ⟨rfl, rfl⟩
          · exact .inr ⟨(s.onLink start).dozeFollows s.dozeCondition, ⟨by simp, by simp⟩,
              State.dozeFollows_seq _ _, State.dozeFollows_parameterTable _ _⟩

theorem State.transfer_parameterTable {rest : State → State} (h : ∀ b, (rest b).parameterTable = b.parameterTable)
    (c : Instr) (dir : Dir) (lost start : Link → Link) :
    (s.transfer c dir lost start rest).parameterTable = s.parameterTable := by
  rcases s.transfer_setup c dir lost start rest with hsame | ⟨b, hb, hsame⟩
  · exact hsame.parameters
  · rw [hsame.parameters, h, hb.parameters]

theorem State.refusedWrite_parameterTable (s : State) (c : Instr) (v : Verdict) (code : Code) (bytes : List Byte) :
    (s.refusedWrite c v code bytes).parameterTable = s.parameterTable := by
  unfold State.refusedWrite
  split
  · exact State.transfer_parameterTable (fun b => b.answerWrite_parameterTable _) _ _ _ _
  · rfl

/-- A request leaves the sequencer and the parameters to its owning block, where it reaches that. -/
theorem State.request_setup (s : State) (c : Instr) (code : Byte) (payload : List Byte)
    (serve : List Byte → State → Served) :
    s.SameSetup (s.request c code payload serve) ∨
      ∃ p b, s.SameSetup b ∧ (serve p b).1.SameSetup (s.request c code payload serve) := by
  unfold State.request
  rcases s.transfer_setup c _ _ _ _ with hsame | ⟨b, hb, hseq, hparameters⟩
  · exact .inl hsame
  · split at hparameters
    next p hj =>
      simp only [hj] at hseq
      exact .inr ⟨p, b, hb, hseq, hparameters⟩
    all_goals
      next hj =>
        simp only [hj] at hseq
        exact .inl ⟨hseq.trans hb.seq, hparameters.trans hb.parameters⟩

theorem State.request_parameterTable {serve : List Byte → State → Served}
    (h : ∀ p (b : State), (serve p b).1.parameterTable = b.parameterTable) (c : Instr) (code : Byte) (payload : List Byte) :
    (s.request c code payload serve).parameterTable = s.parameterTable := by
  rcases s.request_setup c code payload serve with hsame | ⟨p, b, hb, hsame⟩
  · exact hsame.parameters
  · rw [hsame.parameters, h, hb.parameters]

/-! ## The requests -/

theorem State.onSurvey_parameterTable {n : Nat} {act : Fin 64 → Served}
    (h : ∀ i, (act i).1.parameterTable = s.parameterTable) : (s.onSurvey n act).1.parameterTable = s.parameterTable := by
  unfold State.onSurvey
  split
  · rfl
  · split
    · rfl
    · exact h _

section
variable (p : List Byte) (s : State)

theorem serveReadStatus_parameterTable : (serveReadStatus p s).1.parameterTable = s.parameterTable := by
  unfold serveReadStatus; split <;> rfl
theorem serveClearAttention_parameterTable : (serveClearAttention p s).1.parameterTable = s.parameterTable := by
  unfold serveClearAttention; (repeat' split) <;> rfl
theorem serveRestart_parameterTable : (serveRestart p s).1.parameterTable = s.parameterTable := by
  unfold serveRestart
  split
  · rfl
  · exact s.restart_parameterTable
theorem serveSetClock_parameterTable : (serveSetClock p s).1.parameterTable = s.parameterTable := by
  unfold serveSetClock; split <;> rfl
theorem serveSetTarget_parameterTable : (serveSetTarget p s).1.parameterTable = s.parameterTable := by
  unfold serveSetTarget
  split
  · rfl
  · exact s.setTarget_parameterTable _
theorem serveSetCharge_parameterTable : (serveSetCharge p s).1.parameterTable = s.parameterTable := by
  unfold serveSetCharge
  split
  · rfl
  · exact s.setCharge_parameterTable _

/-! The requests on the Survey Table move its records, and by n_open the level. -/

theorem serveOpenSurvey_parameterTable : (serveOpenSurvey p s).1.parameterTable = s.parameterTable := by
  unfold serveOpenSurvey State.openIn; (repeat' split) <;> simp [State.unchanged]
theorem serveAddWindow_parameterTable : (serveAddWindow p s).1.parameterTable = s.parameterTable := by
  unfold serveAddWindow
  split
  · rfl
  · split
    · rfl
    · refine State.onSurvey_parameterTable fun i => ?_
      split <;> rfl
theorem serveDropWindow_parameterTable : (serveDropWindow p s).1.parameterTable = s.parameterTable := by
  unfold serveDropWindow
  split
  · rfl
  · refine State.onSurvey_parameterTable fun i => ?_
    split <;> rfl
theorem serveRename_parameterTable : (serveRename p s).1.parameterTable = s.parameterTable := by
  unfold serveRename
  split
  · rfl
  · split
    · rfl
    · exact State.onSurvey_parameterTable fun i => s.modifyEntry_parameterTable i _
theorem serveSetHold_parameterTable : (serveSetHold p s).1.parameterTable = s.parameterTable := by
  unfold serveSetHold
  split
  · rfl
  · exact State.onSurvey_parameterTable fun i => s.modifyEntry_parameterTable i _
theorem serveRestore_parameterTable : (serveRestore p s).1.parameterTable = s.parameterTable := by
  unfold serveRestore; (repeat' split) <;> rfl

theorem sealAt_parameterTable (i : Fin 64) (n : Nat) : (s.sealAt i n).1.parameterTable = s.parameterTable := by
  unfold State.sealAt; (repeat' split) <;> simp [State.servedState, State.unchanged]
theorem verifiedAt_parameterTable (i : Fin 64) (n : Nat) : (s.verifiedAt i n).1.parameterTable = s.parameterTable := by
  unfold State.verifiedAt; (repeat' split) <;> simp [State.servedState, State.unchanged]
theorem reopenAt_parameterTable (i : Fin 64) (n : Nat) : (s.reopenAt i n).1.parameterTable = s.parameterTable := by
  unfold State.reopenAt; split <;> simp [State.servedState, State.unchanged]
theorem retireAt_parameterTable (i : Fin 64) (n : Nat) : (s.retireAt i n).1.parameterTable = s.parameterTable := by
  unfold State.retireAt; (repeat' split) <;> simp [State.servedState, State.unchanged]

theorem serveSeal_parameterTable : (serveSeal p s).1.parameterTable = s.parameterTable := by
  unfold serveSeal
  split
  · rfl
  · exact State.onSurvey_parameterTable fun i => sealAt_parameterTable s i _
theorem serveVerified_parameterTable : (serveVerified p s).1.parameterTable = s.parameterTable := by
  unfold serveVerified
  split
  · rfl
  · exact State.onSurvey_parameterTable fun i => verifiedAt_parameterTable s i _
theorem serveReopen_parameterTable : (serveReopen p s).1.parameterTable = s.parameterTable := by
  unfold serveReopen
  split
  · rfl
  · exact State.onSurvey_parameterTable fun i => reopenAt_parameterTable s i _
theorem serveRetire_parameterTable : (serveRetire p s).1.parameterTable = s.parameterTable := by
  unfold serveRetire
  split
  · rfl
  · exact State.onSurvey_parameterTable fun i => retireAt_parameterTable s i _

@[simp] theorem grantOrHold_parameterTable (slot : Option (Fin 64)) (window first count : Nat) :
    (s.grantOrHold slot window first count).1.parameterTable = s.parameterTable := by
  unfold State.grantOrHold
  split
  · rfl
  · rfl
  · cases slot <;> rfl
theorem serveCheckWrite_parameterTable : (serveCheckWrite p s).1.parameterTable = s.parameterTable := by
  unfold serveCheckWrite State.checkRange State.checkCovered State.checkUncovered
  (repeat' split) <;> simp [State.unchanged]
theorem serveWriteDone_parameterTable : (serveWriteDone p s).1.parameterTable = s.parameterTable := by
  unfold serveWriteDone; (repeat' split) <;> simp [State.unchanged]

end

/-! ## The commands -/

/-- R206: every command but SET-PARAM and a cold start leaves every parameter. -/
theorem exec_parameterTable (c : Instr) (h : exec c s = .next t) (hset : ∀ p, c ≠ .setParam p)
    (hcold : ∀ a b, c ≠ .coldStart a b) : t.parameterTable = s.parameterTable := by
  have event {f : State → State} (hf : (f s).parameterTable = s.parameterTable) :
      (s.event f).parameterTable = s.parameterTable := State.event_parameterTable hf
  have phase {f : State → State} (hf : (f s).parameterTable = s.parameterTable) (state : SeqState) :
      (s.event (State.phaseExpiry state f)).parameterTable = s.parameterTable :=
    event (State.phaseExpiry_parameterTable hf state)
  have reported {serve : List Byte → State → Served} (hf : ∀ p (b : State), (serve p b).1 = b) (c : Instr) (code : Byte)
      (p : List Byte) : (s.request c code p serve).parameterTable = s.parameterTable :=
    State.request_parameterTable (fun p b => by rw [hf p b]) c code p
  have served {serve : List Byte → State → Served}
      (hf : ∀ p (b : State), (serve p b).1.parameterTable = b.parameterTable) (c : Instr) (code : Byte) (p : List Byte) :
      (s.request c code p serve).parameterTable = s.parameterTable :=
    State.request_parameterTable hf c code p
  cases c <;> cases h
  case readStatus => exact served serveReadStatus_parameterTable _ _ _
  case clearAttention => exact served serveClearAttention_parameterTable _ _ _
  case restart => exact served serveRestart_parameterTable _ _ _
  case readParam => exact reported (fun p b => serveReadParam_state b p) _ _ _
  case setParam p => exact absurd rfl (hset p)
  case readClock => exact reported (fun p b => serveReadClock_state b p) _ _ _
  case setClock => exact served serveSetClock_parameterTable _ _ _
  case openSurvey => exact served serveOpenSurvey_parameterTable _ _ _
  case addWindow => exact served serveAddWindow_parameterTable _ _ _
  case dropWindow => exact served serveDropWindow_parameterTable _ _ _
  case findSurvey => exact reported (fun p b => serveFindSurvey_state b p) _ _ _
  case findBlock => exact reported (fun p b => serveFindBlock_state b p) _ _ _
  case readEntry => exact reported (fun p b => serveReadEntry_state b p) _ _ _
  case nextEntry => exact reported (fun p b => serveNextEntry_state b p) _ _ _
  case rename => exact served serveRename_parameterTable _ _ _
  -- SEAL, whose name is a keyword of Lean, is the next command in order
  next => exact served serveSeal_parameterTable _ _ _
  case verified => exact served serveVerified_parameterTable _ _ _
  case reopen => exact served serveReopen_parameterTable _ _ _
  case setHold => exact served serveSetHold_parameterTable _ _ _
  case retire => exact served serveRetire_parameterTable _ _ _
  case restore => exact served serveRestore_parameterTable _ _ _
  case checkWrite => exact served serveCheckWrite_parameterTable _ _ _
  case writeDone => exact served serveWriteDone_parameterTable _ _ _
  case readGrants => exact reported (fun p b => serveReadGrants_state b p) _ _ _
  case readGuard => exact reported (fun p b => serveReadGuard_state b p) _ _ _
  case setTarget => exact served serveSetTarget_parameterTable _ _ _
  case readMechanism => exact reported (fun p b => serveReadMechanism_state b p) _ _ _
  case readGauge => exact reported (fun p b => serveReadGauge_state b p) _ _ _
  case setCharge => exact served serveSetCharge_parameterTable _ _ _
  case malformed => exact s.refusedWrite_parameterTable _ _ _ _
  case unknown => exact s.refusedWrite_parameterTable _ _ _ _
  case emptyWrite => exact State.transfer_parameterTable (fun b => b.onLink_parameterTable _) _ _ _ _
  case addressMatch address dir =>
    split
    · rfl
    · exact State.onBus_parameterTable (s.addressByte_parameterTable address dir) _
  case answerFormed => exact event s.answerFormed_parameterTable
  case answerRead => exact State.transfer_parameterTable (fun b => b.onLink_parameterTable _) _ _ _ _
  case linkClear => exact State.event_parameterTable (s := s.setLclr false) (State.onLink_parameterTable _ _)
  case linkClearRelease => rfl
  case sampleTimerExpiry => exact event s.sampleExpiry_parameterTable
  case setupComplete => exact event (s.setupEnds_parameterTable _)
  case readComplete => exact event (s.readEnds_parameterTable _)
  case settleTimerExpiry => exact event s.settleExpiry_parameterTable
  case grantDeadlineExpiry slot => exact event (s.expireGrant_parameterTable slot)
  case supplySettleExpiry => exact phase s.supplySettles_parameterTable _
  case spinTimeoutExpiry => exact phase s.spinTimesOut_parameterTable _
  case unloadTimeExpiry => exact phase s.unloads_parameterTable _
  case spinDownExpiry => exact phase s.enterCycleWait_parameterTable _
  case cycleDelayExpiry => exact phase s.offReached_parameterTable _
  case drdyAsserted => exact State.event_parameterTable (s := s.setDrdy true) (State.drdyRises_parameterTable _)
  case drdyReleased => exact State.event_parameterTable (s := s.setDrdy false) (State.drdyFalls_parameterTable _)
  case periodEnd code volts => exact event (s.periodEnds_parameterTable code volts)
  case sprsChange present => exact event (s.sprsChanges_parameterTable present)
  case dozeTimerExpiry => exact event s.dozeExpiry_parameterTable
  case enterRetain =>
    split
    · rfl
    · exact s.parameterTable_enterRetain
  case retainedContentsLoss => split <;> rfl
  case coldStart sprs adsel => exact absurd rfl (hcold sprs adsel)
  case warmStart sprs adsel =>
    split
    · exact s.warmStart_parameterTable sprs adsel
    · rfl
  case secondStep => split <;> rfl
  case wakingTransferEnd => exact State.onBus_parameterTable s.wakingEnds_parameterTable _

/-! ## The sequencer timing parameters (R119) -/

theorem State.setParam_timing {q : Param} (h : q.isTiming = false) (v : Nat) :
    (s.setParam q v).seq.timing = s.seq.timing := by
  cases q
  case supplySettle | spinTimeout | unloadTime | spinDown | cycleDelay => cases h
  all_goals simp [State.setParam]

/-- R119: where the sequencer is in neither OFF nor CYCLE_WAIT, its timing parameters are locked. -/
theorem serveSetParam_timing (p : List Byte) (h1 : s.seq.state ≠ .off) (h2 : s.seq.state ≠ .cycleWait) :
    (serveSetParam p s).1.seq.timing = s.seq.timing := by
  unfold serveSetParam
  split
  · rfl
  · split
    · rfl
    next q _ =>
      split
      · rfl
      next hallowed =>
        refine State.setParam_timing ?_ _
        rw [← Bool.not_eq_true]
        intro htiming
        have hlocked : s.locked q = true := by simp [State.locked, htiming, h1, h2]
        simp [State.paramRefusal, hlocked] at hallowed

theorem exec_timing (c : Instr) (h : exec c s = .next t) (h1 : s.seq.state ≠ .off) (h2 : s.seq.state ≠ .cycleWait)
    (hcold : ∀ a b, c ≠ .coldStart a b) : t.seq.timing = s.seq.timing := by
  by_cases hset : ∃ p, c = .setParam p
  · obtain ⟨p, rfl⟩ := hset
    cases h
    rcases s.request_setup (.setParam p) 0x05 p serveSetParam with hsame | ⟨q, b, hb, hsame⟩
    · rw [hsame.seq]
    · rw [hsame.seq, serveSetParam_timing q (hb.seq ▸ h1) (hb.seq ▸ h2), hb.seq]
  · exact State.timing_of_parameterTable (exec_parameterTable c h (not_exists.mp hset) hcold)

/-- Settles O14: READ-PARAM by the table of parameters (`State.mem_parameterTable_iff`), and what every command leaves of them
(`exec_parameterTable`, `exec_timing`). -/
theorem parametersAreReadAndKept : Obligations.ParametersAreReadAndKept := by
  refine ⟨fun s hl => ⟨fun n v hv => ?_, fun n hn => ?_⟩, fun c s t h => ⟨fun hmoved => ?_, fun h1 h2 hcold => ?_⟩⟩
  · obtain ⟨q, hn, rfl⟩ := State.mem_parameterTable_iff.mp hv
    exact readParam_serves hl (by simp) (serveReadParam_of_number hn)
  · exact readParam_serves hl (by simp) (serveReadParam_of_no_number (paramOf_eq_none hn))
  · by_contra hneither
    obtain ⟨hset, hcold⟩ := not_or.mp hneither
    exact hmoved (exec_parameterTable c h (not_exists.mp hset) fun a b hc => hcold ⟨a, b, hc⟩)
  · simpa only [Sequencer.timing, Prod.mk.injEq] using exec_timing c h h1 h2 hcold

end Sys2Proof.Machine

/-! The Charge Gauge: a period end by what it finds (`Gauge.periodEnd_of_estimate`, `Gauge.periodEnd_of_counted` and the three
cases of `Gauge.correct`), and which work of the gauge keeps it in order. -/

namespace Sys2Proof.Machine

variable {g : Gauge} {s : State} {present : Bool} {code volts : BitVec 16}

/-! ## The counting of a period (R128 to R133) -/

/-- Steps 1 to 6 of a period end. -/
def Gauge.counted (code volts : BitVec 16) (g : Gauge) : Gauge := (g.takeInputs code volts).count.computeS.append

theorem Gauge.periodEnd_of_counted (h : g.estimatePending = false) :
    g.periodEnd code volts present =
      (((g.counted code volts).correct present).1.reload, ((g.counted code volts).correct present).2) := by
  have hpending : (g.takeInputs code volts).estimatePending = false := h
  simp only [Gauge.periodEnd, hpending, Bool.false_eq_true, if_false, Gauge.counted]

theorem Gauge.periodEnd_of_estimate (h : g.estimatePending = true) :
    g.periodEnd code volts present = ((g.takeInputs code volts).estimate.reload, false) := by
  have hpending : (g.takeInputs code volts).estimatePending = true := h
  simp only [Gauge.periodEnd, hpending, if_true]

theorem Gauge.bound_eq (g : Gauge) (q residue : Int) : g.bound q residue = { g with
    q := if q < 0 then 0 else if (g.cf : Int) < q then g.cf else q.toNat,
    residue := if q < 0 ∨ (g.cf : Int) < q then 0 else residue } := by
  unfold Gauge.bound
  by_cases hlow : q < 0
  · simp [hlow]
  · by_cases hhigh : (g.cf : Int) < q <;> simp [hlow, hhigh]

/-- The list of the latest currents, cut to four by its length before. -/
theorem Gauge.append_eq (g : Gauge) : g.append = { g with
    currents := if 4 ≤ g.currents.length then g.currents.tail ++ [g.current] else g.currents ++ [g.current] } := by
  have hlength : 4 < (g.currents ++ [g.current]).length ↔ 4 ≤ g.currents.length := by
    rw [List.length_append, List.length_singleton, Nat.lt_succ_iff]
  simp only [Gauge.append, hlength, List.drop_one]
  split
  next h =>
    have hne : g.currents ≠ [] := by rintro hnil; simp [hnil] at h
    rw [List.tail_append_of_ne_nil hne]
  next => rfl

theorem Gauge.counted_eq (code volts : BitVec 16) (g : Gauge) :
    let current := code.toInt * g.scale
    let sum := g.residue + current * g.runningLength
    let d := sum.tdiv 3600000
    let q := (g.q : Int) + d
    let q' := if q < 0 then 0 else if (g.cf : Int) < q then g.cf else q.toNat
    g.counted code volts = { g with
      current := current, volts := volts.toNat, q := q',
      residue := if q < 0 ∨ (g.cf : Int) < q then 0 else sum - d * 3600000, s := stateOfCharge q' g.cf,
      currents := if 4 ≤ g.currents.length then g.currents.tail ++ [current] else g.currents ++ [current] } := by
  simp only [Gauge.counted, Gauge.count, Gauge.bound_eq, Gauge.append_eq]
  rfl

/-! ## The tests and the corrections (R134, R135, R141, R142) -/

theorem Gauge.emptyTest_iff : g.emptyTest = true ↔ g.volts < g.vEmpty ∧ g.current ≤ 0 := by
  simp [Gauge.emptyTest]

theorem Gauge.fullTest_iff : g.fullTest present = true ↔
    present = true ∧ g.vFull ≤ g.volts ∧ 0 ≤ g.current ∧ g.current ≤ (g.taper * 1000 : Nat) := by
  simp [Gauge.fullTest, and_assoc]

/-- R126: with Vempty below Vfull, no period end passes both tests. -/
theorem Gauge.fullTest_of_emptyTest (hv : g.vEmpty < g.vFull) (h : g.emptyTest = true) : g.fullTest present = false := by
  rw [← Bool.not_eq_true, Gauge.fullTest_iff]
  rintro ⟨-, hfull, -⟩
  have := (Gauge.emptyTest_iff.mp h).1
  omega

/-- R141, R142: step 8, where P is snapped, moved or left. -/
theorem Gauge.report8_eq (corrected : Bool) (g : Gauge) : g.report8 corrected = { g with
    p := if g.snapPending ∨ corrected then g.s else if 3 ≤ g.slewCount then slewed g.p g.s g.slewStep else g.p,
    slewCount := if (g.snapPending ∨ corrected) ∨ 3 ≤ g.slewCount then 0 else g.slewCount + 1,
    snapPending := false } := by
  have hdue : 4 ≤ g.slewCount + 1 ↔ 3 ≤ g.slewCount := Nat.succ_le_succ_iff
  unfold Gauge.report8
  split
  next h =>
    rw [Bool.or_eq_true] at h
    simp [Gauge.snap, h]
  next h =>
    obtain ⟨hpending, hcorrected⟩ : g.snapPending = false ∧ corrected = false := by simpa using h
    simp only [Gauge.slew, hdue, hpending, hcorrected]
    split
    next hslew => simp [hslew]
    next hslew => simp [hslew]

theorem Gauge.correct_of_empty (h : 3 ≤ (g.runs present).1) : g.correct present = ({ g with
    q := 0, residue := 0, s := 0, p := 0, uncertain := false, emptyRun := 0, fullRun := (g.runs present).2,
    slewCount := 0, snapPending := false }, true) := by
  simp [Gauge.correct, h, Gauge.report8_eq, Gauge.correctEmpty]

theorem Gauge.correct_of_full (h : ¬ 3 ≤ (g.runs present).1) (h' : 8 ≤ (g.runs present).2) :
    g.correct present = ({ g with
      q := g.cf, residue := 0, s := 1000, p := 1000, uncertain := false, emptyRun := (g.runs present).1, fullRun := 0,
      slewCount := 0, snapPending := false }, false) := by
  simp only [Gauge.correct, if_neg h, if_pos h']
  simp [Gauge.report8_eq, Gauge.correctFull, Gauge.cf]

theorem Gauge.correct_of_neither (h : ¬ 3 ≤ (g.runs present).1) (h' : ¬ 8 ≤ (g.runs present).2) :
    g.correct present =
      (({ g with emptyRun := (g.runs present).1, fullRun := (g.runs present).2 } : Gauge).report8 false, false) := by
  simp only [Gauge.correct, if_neg h, if_neg h']

end Sys2Proof.Machine

/-! A period end and SET-CHARGE as commands. -/

namespace Sys2Proof.Machine

variable {s : State} {g : Gauge} {empty : Bool} {code volts : BitVec 16}

theorem State.periodEnds_of_ne (h : s.gauge.timer ≠ some 0) : s.periodEnds code volts = s :=
  if_pos (timerEnded_of_ne h)

theorem State.periodEnds_of_ended (h : s.gauge.timer = some 0)
    (hg : s.gauge.periodEnd code volts s.supply.present = (g, empty)) :
    s.periodEnds code volts = State.evaluate s.critical empty { s with gauge := g } := by
  have hended : timerEnded s.gauge.timer ≠ false := by simp [timerEnded, h]
  simp only [State.periodEnds, if_neg hended, hg]
  rfl

/-- A period end comes to the evaluation of what the gauge makes of it. -/
theorem becomes_of_periodEnd (hm : s.supply.mode ≠ .retain) (h : s.gauge.timer = some 0)
    (hg : s.gauge.periodEnd code volts s.supply.present = (g, empty)) :
    Becomes (.periodEnd code volts) s (State.evaluate s.critical empty { s with gauge := g }) :=
  becomes_of_eq rfl hm (State.periodEnds_of_ended h hg) (State.evaluate_link _ _ _) (State.supplyStep_evaluate _ _ _).timer

theorem slewed_eq (p s step : Nat) :
    slewed p s step = if p < s then min s (p + step) else if s < p then max s (p - step) else p := by
  unfold slewed
  split
  · omega
  · split <;> omega

/-- R134, R135: what the tests of a counted period end ask, in the terms of the state before it. -/
theorem Gauge.emptyTest_counted : (g.counted code volts).emptyTest = true ↔
    volts.toNat < g.vEmpty ∧ code.toInt * g.scale ≤ 0 := by
  rw [Gauge.emptyTest_iff, Gauge.counted_eq]

theorem Gauge.fullTest_counted {present : Bool} : (g.counted code volts).fullTest present = true ↔
    present = true ∧ g.vFull ≤ volts.toNat ∧ 0 ≤ code.toInt * g.scale ∧
      code.toInt * g.scale ≤ (g.taper * 1000 : Nat) := by
  rw [Gauge.fullTest_iff, Gauge.counted_eq]

theorem Gauge.runs_counted (g : Gauge) (code volts : BitVec 16) (present : Bool) :
    (g.counted code volts).runs present =
      (if volts.toNat < g.vEmpty ∧ code.toInt * g.scale ≤ 0 then g.emptyRun + 1 else 0,
       if present = true ∧ g.vFull ≤ volts.toNat ∧ 0 ≤ code.toInt * g.scale ∧
          code.toInt * g.scale ≤ (g.taper * 1000 : Nat) then g.fullRun + 1 else 0) := by
  simp only [Gauge.runs, Gauge.emptyTest_counted, Gauge.fullTest_counted]
  simp only [Gauge.counted_eq]

/-- Settles O44: with no run at its end (`Gauge.correct_of_neither`), steps 1 to 6 (`Gauge.counted_eq`), the runs and step 8
(`Gauge.report8_eq`) stand as the statement writes them. -/
theorem periodEndCountsCharge : Obligations.PeriodEndCountsCharge := by
  intro s code volts hm ht hpending _ g current cf sum d q empty full q' s' slews hempty hfull hslew hcurrents
  refine becomes_of_periodEnd hm ht ?_
  have hruns := s.gauge.runs_counted code volts s.supply.present
  have hemptyRun : ¬ 3 ≤ ((s.gauge.counted code volts).runs s.supply.present).1 := by
    rw [hruns]
    change ¬ 3 ≤ if empty then g.emptyRun + 1 else 0
    split
    next h => have := hempty h; omega
    next => omega
  have hfullRun : ¬ 8 ≤ ((s.gauge.counted code volts).runs s.supply.present).2 := by
    rw [hruns]
    change ¬ 8 ≤ if full then g.fullRun + 1 else 0
    split
    next h => have := hfull h; omega
    next => omega
  have hfour : 4 ≤ s.gauge.currents.length ↔ s.gauge.currents.length = 4 := ⟨fun h => le_antisymm hcurrents h, Eq.ge⟩
  have hthree : 3 ≤ s.gauge.slewCount ↔ slews = true := by
    rw [decide_eq_true_iff]
    exact ⟨fun h => le_antisymm hslew h, Eq.ge⟩
  rw [Gauge.periodEnd_of_counted hpending, Gauge.correct_of_neither hemptyRun hfullRun, hruns, Gauge.report8_eq,
    Gauge.counted_eq]
  simp only [hfour, hthree, slewed_eq, Bool.false_eq_true, or_false]
  rfl

/-- Settles O45: the third passing empty test and the eighth passing full test bring `Gauge.correct` to its two corrections. -/
theorem correctionsSetTheBound : Obligations.CorrectionsSetTheBound := by
  intro s code volts hm ht hpending hv g current currents
  have hruns := s.gauge.runs_counted code volts s.supply.present
  refine ⟨fun hlow hcurrent hrun => becomes_of_periodEnd hm ht ?_,
    fun hpresent hhigh hge htaper hrun => becomes_of_periodEnd hm ht ?_⟩
  · have hnotFull : ¬ s.gauge.vFull ≤ volts.toNat := Nat.not_le.mpr (lt_trans hlow hv)
    rw [if_pos ⟨hlow, hcurrent⟩, hrun, if_neg fun h => hnotFull h.2.1] at hruns
    rw [Gauge.periodEnd_of_counted hpending, Gauge.correct_of_empty (by rw [hruns]), hruns, Gauge.counted_eq]
    rfl
  · have hnotLow : ¬ volts.toNat < s.gauge.vEmpty := Nat.not_lt.mpr (le_trans hv.le hhigh)
    rw [if_neg fun h => hnotLow h.1, if_pos ⟨hpresent, hhigh, hge, htaper⟩, hrun] at hruns
    rw [Gauge.periodEnd_of_counted hpending, Gauge.correct_of_full (by rw [hruns]; omega) (by rw [hruns]), hruns,
      Gauge.counted_eq]
    rfl

/-! ## SET-CHARGE (R137) -/

theorem setCharge_serves {u : State} {a : Answer} {p : List Byte} (hl : s.listens) (hp : p.length ≤ 80)
    (h : serveSetCharge p s = (u, a)) : Serves (.setCharge p) s u a :=
  serves_of_serve rfl (unlinked_setCharge p) (by decide) hl hp h

/-- R137: a charge clamped to the capacity, in mAh. -/
theorem Gauge.setCharge_eq (mAh : Nat) (g : Gauge) :
    let perMille := min mAh g.capacity * 1000 * 1000 / (g.capacity * 1000)
    g.setCharge mAh = { g with
      q := min mAh g.capacity * 1000, residue := 0, s := perMille, p := perMille, slewCount := 0, uncertain := false,
      estimatePending := false } := by
  have hclamp : min (mAh * 1000) g.cf = min mAh g.capacity * 1000 := (Nat.mul_min_mul_right ..)
  simp only [Gauge.setCharge, hclamp]
  rfl

/-- Settles O46: the estimate (`Gauge.periodEnd_of_estimate`), a gauge timer that has not ended, and the charge SET-CHARGE
takes (`Gauge.setCharge_eq`). -/
theorem chargeIsEstimatedOrSet : Obligations.ChargeIsEstimatedOrSet := by
  refine ⟨fun s code volts hm => ⟨fun ht hpending => ?_, fun ht => ?_⟩, fun s b1 b0 hl => ?_⟩
  · exact becomes_of_periodEnd hm ht (Gauge.periodEnd_of_estimate hpending)
  · exact exec_of_idle (f := State.periodEnds code volts) rfl (State.periodEnds_of_ne ht)
  · refine setCharge_serves hl (by simp) ?_
    have hset : s.setCharge (nat2 b1 b0) =
        State.evaluate s.critical false { s with gauge := s.gauge.setCharge (nat2 b1 b0) } := rfl
    simp only [serveSetCharge, readTwo, hset, State.evaluate_gauge, Gauge.setCharge_eq,
      Nat.mul_div_cancel _ (Nat.succ_pos 999)]

end Sys2Proof.Machine

/-! What every command does to the gauge: only a period end, SET-CHARGE, SET-PARAM, the entry to RETAIN and the cold and the
warm start move it (`exec_gauge`). -/

namespace Sys2Proof.Machine

variable {s t : State}

/-! ## The events of the other blocks -/

section
variable (s : State)

@[simp] theorem State.missSample_gauge : s.missSample.gauge = s.gauge := by
  unfold State.missSample State.enterBlind; (repeat' split) <;> simp
@[simp] theorem State.transferFailed_gauge : s.transferFailed.gauge = s.gauge := State.missSample_gauge _
@[simp] theorem State.sampleExpiry_gauge : s.sampleExpiry.gauge = s.gauge := by
  simp only [State.sampleExpiry]; (repeat' split) <;> simp
@[simp] theorem State.setupEnds_gauge (good : Bool) : (s.setupEnds good).gauge = s.gauge := by
  unfold State.setupEnds; (repeat' split) <;> simp
@[simp] theorem State.settleExpiry_gauge : s.settleExpiry.gauge = s.gauge := by
  unfold State.settleExpiry; split <;> simp
@[simp] theorem State.knock_gauge (m2 : Nat) : (s.knock m2).gauge = s.gauge := by simp [State.knock]
@[simp] theorem State.enterFalling_gauge (m2 : Nat) : (s.enterFalling m2).gauge = s.gauge := by simp [State.enterFalling]
@[simp] theorem State.setRun_gauge (n : Nat) : (s.setRun n).gauge = s.gauge := rfl
@[simp] theorem State.lowSample_gauge (m2 : Nat) (next : GuardState) : (s.lowSample m2 next).gauge = s.gauge := by
  unfold State.lowSample; split <;> simp
@[simp] theorem State.landed_gauge : s.landed.gauge = s.gauge := by simp [State.landed]
@[simp] theorem State.sampleInCalm_gauge (m2 : Nat) (c : SampleClass) : (s.sampleInCalm m2 c).gauge = s.gauge := by
  cases c <;> simp [State.sampleInCalm]
@[simp] theorem State.sampleInWatch_gauge (m2 : Nat) (c : SampleClass) : (s.sampleInWatch m2 c).gauge = s.gauge := by
  cases c <;> simp [State.sampleInWatch]
@[simp] theorem State.sampleInFalling_gauge (c : SampleClass) : (s.sampleInFalling c).gauge = s.gauge := by
  cases c
  case low => exact s.setRun_gauge 0
  case normal => simp only [State.sampleInFalling]; split <;> simp
  case impact => exact s.landed_gauge
@[simp] theorem State.sampleInSettle_gauge (m2 : Nat) (c : SampleClass) : (s.sampleInSettle m2 c).gauge = s.gauge := by
  cases c <;> simp [State.sampleInSettle]
@[simp] theorem State.leaveBlind_gauge : s.leaveBlind.gauge = s.gauge := by
  unfold State.leaveBlind; split <;> simp
@[simp] theorem State.takeSample_gauge (m2 : Nat) (c : SampleClass) : (s.takeSample m2 c).gauge = s.gauge := by
  simp only [State.takeSample]; split <;> simp
@[simp] theorem State.readEnds_gauge (sample : Option Sample) : (s.readEnds sample).gauge = s.gauge := by
  unfold State.readEnds; (repeat' split) <;> simp

@[simp] theorem State.supplySettles_gauge : s.supplySettles.gauge = s.gauge := by
  simp only [State.supplySettles]; split <;> simp
@[simp] theorem State.spinTimesOut_gauge : s.spinTimesOut.gauge = s.gauge := rfl
@[simp] theorem State.unloads_gauge : s.unloads.gauge = s.gauge := rfl
theorem State.phaseExpiry_gauge {f : State → State} (h : (f s).gauge = s.gauge) (state : SeqState) :
    (s.phaseExpiry state f).gauge = s.gauge := by
  unfold State.phaseExpiry
  split
  · exact h
  · rfl
@[simp] theorem State.drdyRises_gauge : s.drdyRises.gauge = s.gauge := by
  unfold State.drdyRises; split <;> simp
@[simp] theorem State.drdyFalls_gauge : s.drdyFalls.gauge = s.gauge := by
  unfold State.drdyFalls; split <;> rfl
@[simp] theorem State.setTarget_gauge (target : Target) : (s.setTarget target).gauge = s.gauge := by
  simp only [State.setTarget, State.actOnTarget]; (repeat' split) <;> simp
@[simp] theorem State.setCycleDelay_gauge (d : Nat) : (s.setCycleDelay d).gauge = s.gauge := by
  simp only [State.setCycleDelay]; (repeat' split) <;> simp

@[simp] theorem State.expireGrant_gauge (k : Fin 8) : (s.expireGrant k).gauge = s.gauge := by
  unfold State.expireGrant; (repeat' split) <;> simp
@[simp] theorem State.sprsChanges_gauge (present : Bool) : (s.sprsChanges present).gauge = s.gauge := by
  simp only [State.sprsChanges]; (repeat' split) <;> simp
@[simp] theorem State.dozeExpiry_gauge : s.dozeExpiry.gauge = s.gauge := by
  unfold State.dozeExpiry; split <;> simp
@[simp] theorem State.answerFormed_gauge : s.answerFormed.gauge = s.gauge := by
  unfold State.answerFormed; split <;> rfl
@[simp] theorem State.wakingEnds_gauge : s.wakingEnds.gauge = s.gauge := by
  unfold State.wakingEnds; split <;> rfl
@[simp] theorem State.addressByte_gauge (address : BitVec 7) (dir : Dir) : (s.addressByte address dir).gauge = s.gauge := by
  simp only [State.addressByte]; (repeat' split) <;> simp

end

/-! ## Events, transfers and requests -/

theorem State.event_gauge {f : State → State} (h : (f s).gauge = s.gauge) : (s.event f).gauge = s.gauge := by
  unfold State.event
  split
  · rfl
  · rw [State.dozeFollows_gauge, h]

theorem State.onBus_gauge {f : State → State} (h : (f s).gauge = s.gauge) (c : Instr) :
    (s.onBus c f).gauge = s.gauge := by
  unfold State.onBus
  split
  · exact State.event_gauge rfl
  · exact State.event_gauge h

/-- A transfer leaves the gauge to its `rest`, where it comes to that. -/
theorem State.transfer_gauge (s : State) (c : Instr) (dir : Dir) (lost start : Link → Link) (rest : State → State) :
    (s.transfer c dir lost start rest).gauge = s.gauge ∨
      ∃ b : State, b.gauge = s.gauge ∧ (s.transfer c dir lost start rest).gauge = (rest b).gauge := by
  unfold State.transfer
  split
  · exact .inl rfl
  · split
    · exact .inl (State.event_gauge rfl)
    · split
      · exact .inl rfl
      · split
        · exact .inl (by simp)
        · split
          · exact .inl rfl
          · exact .inr ⟨(s.onLink start).dozeFollows s.dozeCondition, by simp, State.dozeFollows_gauge _ _⟩

theorem State.transfer_gauge_of_rest {rest : State → State} (h : ∀ b, (rest b).gauge = b.gauge) (s : State) (c : Instr)
    (dir : Dir) (lost start : Link → Link) : (s.transfer c dir lost start rest).gauge = s.gauge := by
  rcases s.transfer_gauge c dir lost start rest with hsame | ⟨b, hb, hrest⟩
  · exact hsame
  · rw [hrest, h, hb]

theorem State.refusedWrite_gauge (s : State) (c : Instr) (v : Verdict) (code : Code) (bytes : List Byte) :
    (s.refusedWrite c v code bytes).gauge = s.gauge := by
  unfold State.refusedWrite
  split
  · exact State.transfer_gauge_of_rest (fun b => b.answerWrite_gauge _) s _ _ _ _
  · rfl

/-- A request leaves the gauge to its owning block, where it reaches that. -/
theorem State.request_gauge (s : State) (c : Instr) (code : Byte) (payload : List Byte)
    (serve : List Byte → State → Served) :
    (s.request c code payload serve).gauge = s.gauge ∨
      ∃ p, ∃ b : State, b.gauge = s.gauge ∧ (s.request c code payload serve).gauge = (serve p b).1.gauge := by
  unfold State.request
  refine (s.transfer_gauge _ _ _ _ _).elim .inl ?_
  rintro ⟨b, hb, hrest⟩
  split at hrest
  next p _ => exact .inr ⟨p, b, hb, hrest⟩
  all_goals exact .inl (hrest.trans hb)

theorem State.request_gauge_of_serve {serve : List Byte → State → Served}
    (h : ∀ p (b : State), (serve p b).1.gauge = b.gauge) (s : State) (c : Instr) (code : Byte) (payload : List Byte) :
    (s.request c code payload serve).gauge = s.gauge := by
  rcases s.request_gauge c code payload serve with hsame | ⟨p, b, hb, hserve⟩
  · exact hsame
  · rw [hserve, h, hb]

/-! ## The requests to the other blocks -/

theorem State.onSurvey_gauge {n : Nat} {act : Fin 64 → Served} (h : ∀ i, (act i).1.gauge = s.gauge) :
    (s.onSurvey n act).1.gauge = s.gauge := by
  unfold State.onSurvey
  split
  · rfl
  · split
    · rfl
    · exact h _

section
variable (p : List Byte) (s : State)

theorem serveReadStatus_gauge : (serveReadStatus p s).1.gauge = s.gauge := by
  unfold serveReadStatus; split <;> rfl
theorem serveClearAttention_gauge : (serveClearAttention p s).1.gauge = s.gauge := by
  unfold serveClearAttention; (repeat' split) <;> rfl
theorem serveRestart_gauge : (serveRestart p s).1.gauge = s.gauge := by
  unfold serveRestart
  split
  · rfl
  · exact s.restart_gauge
theorem serveSetClock_gauge : (serveSetClock p s).1.gauge = s.gauge := by
  unfold serveSetClock; split <;> rfl
theorem serveSetTarget_gauge : (serveSetTarget p s).1.gauge = s.gauge := by
  unfold serveSetTarget
  split
  · rfl
  · exact s.setTarget_gauge _
theorem serveOpenSurvey_gauge : (serveOpenSurvey p s).1.gauge = s.gauge := by
  unfold serveOpenSurvey State.openIn; (repeat' split) <;> simp [State.unchanged]
theorem serveAddWindow_gauge : (serveAddWindow p s).1.gauge = s.gauge := by
  unfold serveAddWindow
  split
  · rfl
  · split
    · rfl
    · refine State.onSurvey_gauge fun i => ?_
      split <;> rfl
theorem serveDropWindow_gauge : (serveDropWindow p s).1.gauge = s.gauge := by
  unfold serveDropWindow
  split
  · rfl
  · refine State.onSurvey_gauge fun i => ?_
    split <;> rfl
theorem serveRename_gauge : (serveRename p s).1.gauge = s.gauge := by
  unfold serveRename
  split
  · rfl
  · split
    · rfl
    · exact State.onSurvey_gauge fun i => s.modifyEntry_gauge i _
theorem serveSetHold_gauge : (serveSetHold p s).1.gauge = s.gauge := by
  unfold serveSetHold
  split
  · rfl
  · exact State.onSurvey_gauge fun i => s.modifyEntry_gauge i _
theorem serveRestore_gauge : (serveRestore p s).1.gauge = s.gauge := by
  unfold serveRestore; (repeat' split) <;> rfl

theorem sealAt_gauge (i : Fin 64) (n : Nat) : (s.sealAt i n).1.gauge = s.gauge := by
  unfold State.sealAt; (repeat' split) <;> simp [State.servedState, State.unchanged]
theorem verifiedAt_gauge (i : Fin 64) (n : Nat) : (s.verifiedAt i n).1.gauge = s.gauge := by
  unfold State.verifiedAt; (repeat' split) <;> simp [State.servedState, State.unchanged]
theorem reopenAt_gauge (i : Fin 64) (n : Nat) : (s.reopenAt i n).1.gauge = s.gauge := by
  unfold State.reopenAt; split <;> simp [State.servedState, State.unchanged]
theorem retireAt_gauge (i : Fin 64) (n : Nat) : (s.retireAt i n).1.gauge = s.gauge := by
  unfold State.retireAt; (repeat' split) <;> simp [State.servedState, State.unchanged]

theorem serveSeal_gauge : (serveSeal p s).1.gauge = s.gauge := by
  unfold serveSeal
  split
  · rfl
  · exact State.onSurvey_gauge fun i => sealAt_gauge s i _
theorem serveVerified_gauge : (serveVerified p s).1.gauge = s.gauge := by
  unfold serveVerified
  split
  · rfl
  · exact State.onSurvey_gauge fun i => verifiedAt_gauge s i _
theorem serveReopen_gauge : (serveReopen p s).1.gauge = s.gauge := by
  unfold serveReopen
  split
  · rfl
  · exact State.onSurvey_gauge fun i => reopenAt_gauge s i _
theorem serveRetire_gauge : (serveRetire p s).1.gauge = s.gauge := by
  unfold serveRetire
  split
  · rfl
  · exact State.onSurvey_gauge fun i => retireAt_gauge s i _

@[simp] theorem grantOrHold_gauge (slot : Option (Fin 64)) (window first count : Nat) :
    (s.grantOrHold slot window first count).1.gauge = s.gauge := by
  unfold State.grantOrHold
  split
  · rfl
  · rfl
  · cases slot <;> simp
theorem serveCheckWrite_gauge : (serveCheckWrite p s).1.gauge = s.gauge := by
  unfold serveCheckWrite State.checkRange State.checkCovered State.checkUncovered
  (repeat' split) <;> simp [State.unchanged]
theorem serveWriteDone_gauge : (serveWriteDone p s).1.gauge = s.gauge := by
  unfold serveWriteDone; (repeat' split) <;> simp [State.unchanged]

end

/-! ## The commands -/

/-- The commands that can move the gauge (R129, R137, R147, R148, R149, R206). -/
def Instr.movesGauge : Instr → Bool
  | .periodEnd _ _ | .setCharge _ | .setParam _ | .enterRetain | .coldStart _ _ | .warmStart _ _ => true
  | _ => false

theorem exec_gauge (c : Instr) (h : exec c s = .next t) (hc : Instr.movesGauge c = false) : t.gauge = s.gauge := by
  have phase {f : State → State} (hf : (f s).gauge = s.gauge) (state : SeqState) :
      (s.event (State.phaseExpiry state f)).gauge = s.gauge := State.event_gauge (s.phaseExpiry_gauge hf state)
  have reported {serve : List Byte → State → Served} (hf : ∀ p (b : State), (serve p b).1 = b) (c : Instr) (code : Byte)
      (p : List Byte) : (s.request c code p serve).gauge = s.gauge :=
    State.request_gauge_of_serve (fun p b => by rw [hf p b]) s c code p
  have served {serve : List Byte → State → Served} (hf : ∀ p (b : State), (serve p b).1.gauge = b.gauge) (c : Instr)
      (code : Byte) (p : List Byte) : (s.request c code p serve).gauge = s.gauge :=
    State.request_gauge_of_serve hf s c code p
  cases c <;> cases h
  case periodEnd | setCharge | setParam | enterRetain | coldStart | warmStart => cases hc
  case readStatus => exact served serveReadStatus_gauge _ _ _
  case clearAttention => exact served serveClearAttention_gauge _ _ _
  case restart => exact served serveRestart_gauge _ _ _
  case setClock => exact served serveSetClock_gauge _ _ _
  case setTarget => exact served serveSetTarget_gauge _ _ _
  case openSurvey => exact served serveOpenSurvey_gauge _ _ _
  case addWindow => exact served serveAddWindow_gauge _ _ _
  case dropWindow => exact served serveDropWindow_gauge _ _ _
  case rename => exact served serveRename_gauge _ _ _
  case verified => exact served serveVerified_gauge _ _ _
  case reopen => exact served serveReopen_gauge _ _ _
  case setHold => exact served serveSetHold_gauge _ _ _
  case retire => exact served serveRetire_gauge _ _ _
  case restore => exact served serveRestore_gauge _ _ _
  case checkWrite => exact served serveCheckWrite_gauge _ _ _
  case writeDone => exact served serveWriteDone_gauge _ _ _
  case readParam => exact reported (fun p b => serveReadParam_state b p) _ _ _
  case readClock => exact reported (fun p b => serveReadClock_state b p) _ _ _
  case findSurvey => exact reported (fun p b => serveFindSurvey_state b p) _ _ _
  case findBlock => exact reported (fun p b => serveFindBlock_state b p) _ _ _
  case readEntry => exact reported (fun p b => serveReadEntry_state b p) _ _ _
  case nextEntry => exact reported (fun p b => serveNextEntry_state b p) _ _ _
  case readGrants => exact reported (fun p b => serveReadGrants_state b p) _ _ _
  case readGuard => exact reported (fun p b => serveReadGuard_state b p) _ _ _
  case readMechanism => exact reported (fun p b => serveReadMechanism_state b p) _ _ _
  case readGauge => exact reported (fun p b => serveReadGauge_state b p) _ _ _
  -- SEAL, whose name is a keyword of Lean, is the first command left
  next => exact served serveSeal_gauge _ _ _
  case malformed | unknown => exact s.refusedWrite_gauge _ _ _ _
  case emptyWrite | answerRead => exact State.transfer_gauge_of_rest (fun b => b.onLink_gauge _) s _ _ _ _
  case addressMatch address dir =>
    split
    · rfl
    · exact State.onBus_gauge (s.addressByte_gauge address dir) _
  case wakingTransferEnd => exact State.onBus_gauge s.wakingEnds_gauge _
  case answerFormed => exact State.event_gauge s.answerFormed_gauge
  case linkClear => exact State.event_gauge (s := s.setLclr false) (State.onLink_gauge _ _)
  case linkClearRelease => rfl
  case sampleTimerExpiry => exact State.event_gauge s.sampleExpiry_gauge
  case setupComplete => exact State.event_gauge (s.setupEnds_gauge _)
  case readComplete => exact State.event_gauge (s.readEnds_gauge _)
  case settleTimerExpiry => exact State.event_gauge s.settleExpiry_gauge
  case grantDeadlineExpiry slot => exact State.event_gauge (s.expireGrant_gauge slot)
  case supplySettleExpiry => exact phase s.supplySettles_gauge _
  case spinTimeoutExpiry => exact phase s.spinTimesOut_gauge _
  case unloadTimeExpiry => exact phase s.unloads_gauge _
  case spinDownExpiry => exact phase s.enterCycleWait_gauge _
  case cycleDelayExpiry => exact phase s.offReached_gauge _
  case drdyAsserted => exact State.event_gauge (s := s.setDrdy true) (State.drdyRises_gauge _)
  case drdyReleased => exact State.event_gauge (s := s.setDrdy false) (State.drdyFalls_gauge _)
  case sprsChange present => exact State.event_gauge (s.sprsChanges_gauge present)
  case dozeTimerExpiry => exact State.event_gauge s.dozeExpiry_gauge
  case retainedContentsLoss | secondStep => split <;> rfl

end Sys2Proof.Machine

/-! The Charge Gauge's invariant: each work of the gauge keeps what R125, R130 to R136 and R141 ask of it. -/

namespace Sys2Proof.Machine

variable {g : Gauge} {s t : State}

/-! ## What the gauge in order has -/

/-- R126: the parameters lie in their ranges. -/
structure Gauge.Ranged (g : Gauge) : Prop where
  capacity_ge : 100 ≤ g.capacity
  capacity_le : g.capacity ≤ 20000
  vEmpty : g.vEmpty ≤ 3600
  vFull : 3700 ≤ g.vFull

/-- R125, R130 to R132, R141: Q, its residue, S and P. -/
structure Gauge.Charged (g : Gauge) : Prop where
  q : g.q ≤ g.cf
  s : g.s = stateOfCharge g.q g.cf
  p : g.p ≤ 1000
  residue_ge : -3599999 ≤ g.residue
  residue_le : g.residue ≤ 3599999

/-- R133 to R136, R141: the current sum, the runs and the slew count. -/
structure Gauge.Tested (g : Gauge) : Prop where
  currents : g.currents.length ≤ 4
  emptyRun : g.emptyRun < 3
  fullRun : g.fullRun < 8
  slewCount : g.slewCount < 4
  one_run : g.emptyRun = 0 ∨ g.fullRun = 0

theorem stateOfCharge_le {q cf : Nat} (h : q ≤ cf) : stateOfCharge q cf ≤ 1000 :=
  Nat.div_le_of_le_mul (Nat.mul_le_mul_right 1000 h)

theorem Gauge.Charged.s_le (h : g.Charged) : g.s ≤ 1000 := h.s.trans_le (stateOfCharge_le h.q)

theorem Gauge.inOrder_iff : g.inOrder ↔ g.Ranged ∧ g.Charged ∧ g.Tested := by
  constructor
  · rintro ⟨hge, hle, hempty, hfull, hq, hs, -, hp, hlow, hhigh, hcurrents, hemptyRun, hfullRun, hslew, hone⟩
    exact ⟨⟨hge, hle, hempty, hfull⟩, ⟨hq, hs, hp, hlow, hhigh⟩, ⟨hcurrents, hemptyRun, hfullRun, hslew, hone⟩⟩
  · rintro ⟨hr, hc, ht⟩
    exact ⟨hr.capacity_ge, hr.capacity_le, hr.vEmpty, hr.vFull, hc.q, hc.s, hc.s_le, hc.p, hc.residue_ge, hc.residue_le,
      ht.currents, ht.emptyRun, ht.fullRun, ht.slewCount, ht.one_run⟩

/-- R126: the ranges keep Vempty below Vfull. -/
theorem Gauge.Ranged.vEmpty_lt (h : g.Ranged) : g.vEmpty < g.vFull := by
  have := h.vEmpty
  have := h.vFull
  omega

/-! ## Counting (R130 to R133) -/

/-- R130: what is left of the residue when its whole µAh have moved is less than one µAh. -/
theorem sub_tdiv_bounds (r : Int) :
    -3599999 ≤ r - r.tdiv 3600000 * 3600000 ∧ r - r.tdiv 3600000 * 3600000 ≤ 3599999 := by
  have hrest : r - r.tdiv 3600000 * 3600000 = r.tmod 3600000 := by rw [Int.tmod_def, Int.mul_comm]
  have hlow := Int.lt_tmod_of_pos r (b := 3600000) (by decide)
  have hhigh := Int.tmod_lt_of_pos r (b := 3600000) (by decide)
  omega

theorem Gauge.inOrder_counted (h : g.inOrder) (code volts : BitVec 16) : (g.counted code volts).inOrder := by
  obtain ⟨hr, hc, ht⟩ := Gauge.inOrder_iff.mp h
  rw [Gauge.counted_eq]
  refine Gauge.inOrder_iff.mpr ⟨{ hr with }, ⟨?_, rfl, hc.p, ?_, ?_⟩, { ht with currents := ?_ }⟩
  · change (if _ then 0 else if (g.cf : Int) < _ then g.cf else _) ≤ g.cf
    split
    · exact Nat.zero_le _
    · split
      · exact Nat.le_refl _
      · exact Int.toNat_le.mpr (by omega)
  · dsimp only
    split
    · decide
    · exact (sub_tdiv_bounds _).1
  · dsimp only
    split
    · decide
    · exact (sub_tdiv_bounds _).2
  · have := ht.currents
    dsimp only
    split <;> simp <;> omega

/-! ## The corrections and step 8 (R134 to R136, R141, R142) -/

theorem slewed_le {p s step n : Nat} (hp : p ≤ n) (hs : s ≤ n) : slewed p s step ≤ n := by
  rw [slewed_eq]
  split_ifs <;> omega

theorem Gauge.inOrder_report8 (h : g.inOrder) (corrected : Bool) : (g.report8 corrected).inOrder := by
  obtain ⟨hr, hc, ht⟩ := Gauge.inOrder_iff.mp h
  rw [Gauge.report8_eq]
  refine Gauge.inOrder_iff.mpr ⟨{ hr with }, { hc with p := ?_ }, { ht with slewCount := ?_ }⟩
  · dsimp only
    split_ifs
    · exact hc.s_le
    · exact slewed_le hc.p hc.s_le
    · exact hc.p
  · dsimp only
    split <;> omega

/-- R136: at most one run is above 0 after the tests of a period end. -/
theorem Gauge.runs_exclusive (h : g.vEmpty < g.vFull) (present : Bool) :
    (g.runs present).1 = 0 ∨ (g.runs present).2 = 0 := by
  unfold Gauge.runs
  by_cases hempty : g.emptyTest = true
  · exact .inr (if_neg (Bool.eq_false_iff.mp (Gauge.fullTest_of_emptyTest h hempty)))
  · exact .inl (if_neg hempty)

/-- The charge where the residue was cleared. -/
theorem Gauge.charged_of_no_residue (hq : g.q ≤ g.cf) (hs : g.s = stateOfCharge g.q g.cf) (hp : g.p ≤ 1000)
    (hr : g.residue = 0) : g.Charged :=
  ⟨hq, hs, hp, by omega, by omega⟩

/-- R132: S is 0 at an empty Q and 1000 at a full one. -/
theorem stateOfCharge_zero (cf : Nat) : stateOfCharge 0 cf = 0 := by simp [stateOfCharge]

theorem stateOfCharge_self {cf : Nat} (h : 0 < cf) : stateOfCharge cf cf = 1000 := Nat.mul_div_cancel_left 1000 h

theorem Gauge.Ranged.cf_pos (h : g.Ranged) : 0 < g.cf := by
  have := h.capacity_ge
  unfold Gauge.cf
  omega

theorem Gauge.inOrder_correct (h : g.inOrder) (present : Bool) : (g.correct present).1.inOrder := by
  obtain ⟨hr, hc, ht⟩ := Gauge.inOrder_iff.mp h
  have hone := Gauge.runs_exclusive hr.vEmpty_lt present
  by_cases hempty : 3 ≤ (g.runs present).1
  · have hfullRun : (g.runs present).2 < 8 := by omega
    rw [Gauge.correct_of_empty hempty]
    exact Gauge.inOrder_iff.mpr ⟨{ hr with },
      Gauge.charged_of_no_residue (Nat.zero_le _) (stateOfCharge_zero _).symm (Nat.zero_le _) rfl,
      ⟨ht.currents, Nat.succ_pos 2, hfullRun, Nat.succ_pos 3, .inl rfl⟩⟩
  · have hemptyRun : (g.runs present).1 < 3 := Nat.not_le.mp hempty
    by_cases hfull : 8 ≤ (g.runs present).2
    · rw [Gauge.correct_of_full hempty hfull]
      exact Gauge.inOrder_iff.mpr ⟨{ hr with },
        Gauge.charged_of_no_residue (Nat.le_refl _) (stateOfCharge_self hr.cf_pos).symm (Nat.le_refl _) rfl,
        ⟨ht.currents, hemptyRun, Nat.succ_pos 7, Nat.succ_pos 3, .inr rfl⟩⟩
    · rw [Gauge.correct_of_neither hempty hfull]
      have htested : Gauge.inOrder { g with emptyRun := (g.runs present).1, fullRun := (g.runs present).2 } :=
        Gauge.inOrder_iff.mpr ⟨{ hr with }, { hc with },
          ⟨ht.currents, hemptyRun, Nat.not_le.mp hfull, ht.slewCount, hone⟩⟩
      exact Gauge.inOrder_report8 htested false

/-! ## Q set anew: the estimate, SET-CHARGE and the capacity (R137 to R139) -/

/-- S computed from Q, and P snapped to it. -/
theorem Gauge.charged_snapped (hq : g.q ≤ g.cf) (hr : g.residue = 0) : g.computeS.snap.Charged :=
  Gauge.charged_of_no_residue hq rfl (stateOfCharge_le hq) hr

theorem Gauge.estimateQ_le (g : Gauge) : g.estimateQ ≤ g.cf := by
  unfold Gauge.estimateQ
  split
  · exact Nat.zero_le _
  · split
    · exact Nat.le_refl _
    · refine Nat.div_le_of_le_mul ?_
      rw [Nat.mul_comm]
      exact Nat.mul_le_mul_right _ (by omega)

theorem Gauge.inOrder_estimate (h : g.inOrder) : g.estimate.inOrder := by
  obtain ⟨hr, -, ht⟩ := Gauge.inOrder_iff.mp h
  have hc : ({ g with q := g.estimateQ, residue := 0, estimatePending := false } : Gauge).computeS.snap.Charged :=
    Gauge.charged_snapped g.estimateQ_le rfl
  exact Gauge.inOrder_iff.mpr ⟨{ hr with }, { hc with }, { ht with slewCount := Nat.succ_pos 3 }⟩

theorem Gauge.inOrder_setCharge (h : g.inOrder) (mAh : Nat) : (g.setCharge mAh).inOrder := by
  obtain ⟨hr, -, ht⟩ := Gauge.inOrder_iff.mp h
  exact Gauge.inOrder_iff.mpr ⟨{ hr with }, Gauge.charged_snapped (Nat.min_le_right _ _) rfl,
    { ht with slewCount := Nat.succ_pos 3 }⟩

theorem Gauge.inOrder_setCapacity (h : g.inOrder) {v : Nat} (hge : 100 ≤ v) (hle : v ≤ 20000) :
    (g.setCapacity v).inOrder := by
  obtain ⟨hr, hc, ht⟩ := Gauge.inOrder_iff.mp h
  have hs : stateOfCharge (min g.q (v * 1000)) (v * 1000) ≤ 1000 := stateOfCharge_le (Nat.min_le_right _ _)
  rw [Gauge.setCapacity_eq]
  refine Gauge.inOrder_iff.mpr ⟨{ hr with capacity_ge := hge, capacity_le := hle }, ⟨Nat.min_le_right _ _, rfl, hs, ?_, ?_⟩,
    { ht with slewCount := Nat.succ_pos 3 }⟩
  · have := hc.residue_ge
    dsimp only
    split <;> omega
  · have := hc.residue_le
    dsimp only
    split <;> omega

theorem Gauge.inOrder_periodEnd (h : g.inOrder) (code volts : BitVec 16) (present : Bool) :
    (g.periodEnd code volts present).1.inOrder := by
  cases hpending : g.estimatePending
  · rw [Gauge.periodEnd_of_counted hpending]
    exact Gauge.inOrder_correct (Gauge.inOrder_counted h code volts) present
  · rw [Gauge.periodEnd_of_estimate hpending]
    exact Gauge.inOrder_estimate (g := g.takeInputs code volts) h

/-! ## RETAIN and the starts (R147 to R149) -/

theorem Gauge.inOrder_retain (h : g.inOrder) : g.retain.inOrder := by
  obtain ⟨hr, hc, -⟩ := Gauge.inOrder_iff.mp h
  exact Gauge.inOrder_iff.mpr ⟨{ hr with }, Gauge.charged_of_no_residue hc.q hc.s hc.p rfl,
    ⟨Nat.zero_le _, Nat.succ_pos 2, Nat.succ_pos 7, Nat.succ_pos 3, .inl rfl⟩⟩

/-- A warm start begins with what RETAIN left, in all that the invariant reads. -/
theorem Gauge.inOrder_warm (h : g.inOrder) : g.warm.inOrder := Gauge.inOrder_retain h

theorem State.inOrder_gauge_cold (sprs adsel : Bool) (pins : Pins) (n : Nat) (q : List Instr) :
    (State.cold sprs adsel pins n q).gauge.inOrder := by
  obtain ⟨-, -, -, -, hreset, -⟩ := resetIsInOrder
  exact hreset

/-! ## The parameters (R126, R206) -/

theorem Param.clamp_le {q : Param} (h : q.range.1 ≤ q.range.2) (v : Nat) : q.clamp v ≤ q.range.2 :=
  max_le h (Nat.min_le_left _ _)

theorem State.inOrder_setParam (h : s.gauge.inOrder) (q : Param) (v : Nat) :
    (s.setParam q (s.valueTaken q v)).gauge.inOrder := by
  obtain ⟨hr, hc, ht⟩ := Gauge.inOrder_iff.mp h
  cases q
  case capacity =>
    rw [State.setParam, State.evaluate_gauge]
    exact Gauge.inOrder_setCapacity h (Param.clamp_ge .capacity v) (Param.clamp_le (by decide) v)
  case vEmpty =>
    have hle : Param.vEmpty.clamp v ≤ 3600 := Param.clamp_le (by decide) v
    exact Gauge.inOrder_iff.mpr ⟨{ hr with vEmpty := hle }, { hc with }, { ht with }⟩
  case vFull =>
    have hge : 3700 ≤ Param.vFull.clamp v := Param.clamp_ge .vFull v
    exact Gauge.inOrder_iff.mpr ⟨{ hr with vFull := hge }, { hc with }, { ht with }⟩
  case gaugePeriod | currentScale | taper | slewStep => exact h
  all_goals simpa [State.setParam] using h

theorem inOrder_serveSetParam (h : s.gauge.inOrder) (p : List Byte) : (serveSetParam p s).1.gauge.inOrder := by
  unfold serveSetParam
  split
  · exact h
  · split
    · exact h
    next q _ =>
      split
      · exact h
      · exact State.inOrder_setParam h q _

theorem inOrder_serveSetCharge (h : s.gauge.inOrder) (p : List Byte) : (serveSetCharge p s).1.gauge.inOrder := by
  unfold serveSetCharge
  split
  · exact h
  next mAh _ =>
    simp only [State.setCharge, State.evaluate_gauge]
    exact Gauge.inOrder_setCharge h mAh

/-! ## Every step -/

theorem State.inOrder_periodEnds (h : s.gauge.inOrder) (code volts : BitVec 16) :
    (s.periodEnds code volts).gauge.inOrder := by
  simp only [State.periodEnds]
  split
  · exact h
  · rw [State.evaluate_gauge]
    exact Gauge.inOrder_periodEnd h code volts s.supply.present

theorem State.inOrder_event {f : State → State} (h : s.gauge.inOrder) (hf : (f s).gauge.inOrder) :
    (s.event f).gauge.inOrder := by
  unfold State.event
  split
  · exact h
  · rwa [State.dozeFollows_gauge]

theorem State.inOrder_request {serve : List Byte → State → Served}
    (hserve : ∀ (b : State) p, b.gauge.inOrder → (serve p b).1.gauge.inOrder) (h : s.gauge.inOrder) (c : Instr)
    (code : Byte) (payload : List Byte) : (s.request c code payload serve).gauge.inOrder := by
  rcases s.request_gauge c code payload serve with hsame | ⟨p, b, hb, hgauge⟩
  · rwa [hsame]
  · rw [hgauge]
    exact hserve b p (hb ▸ h)

theorem exec_gaugeInOrder (c : Instr) (h : s.gauge.inOrder) (he : exec c s = .next t) : t.gauge.inOrder := by
  by_cases hc : Instr.movesGauge c = false
  · rwa [exec_gauge c he hc]
  · cases c with
    | periodEnd code volts =>
      cases he
      exact State.inOrder_event h (State.inOrder_periodEnds h code volts)
    | setCharge p =>
      cases he
      exact State.inOrder_request (fun b p hb => inOrder_serveSetCharge hb p) h _ _ _
    | setParam p =>
      cases he
      exact State.inOrder_request (fun b p hb => inOrder_serveSetParam hb p) h _ _ _
    | enterRetain =>
      cases he
      split
      · exact h
      · exact Gauge.inOrder_retain h
    | coldStart sprs adsel =>
      cases he
      split
      · rw [State.coldStart_eq]
        exact State.inOrder_gauge_cold ..
      · exact h
    | warmStart sprs adsel =>
      cases he
      split
      · rw [State.warmStart_gauge]
        exact Gauge.inOrder_warm h
      · exact h
    | _ => exact absurd rfl hc

theorem State.inOrder_gauge_tick (h : s.gauge.inOrder) : s.tick.gauge.inOrder := by
  unfold State.tick
  split <;> exact h

/-- Settles O58: the parts of the invariant (`Gauge.inOrder_iff`) through each work of the gauge, and the commands that leave
the gauge as it is (`exec_gauge`). -/
theorem gaugeStaysInOrder : Obligations.GaugeStaysInOrder := by
  intro s t h hstep
  unfold step at hstep
  split at hstep
  · cases hstep
    exact State.inOrder_gauge_tick h
  next c rest _ => exact exec_gaugeInOrder (s := { s with pending := rest }) c h hstep

end Sys2Proof.Machine

/-! What a transfer of the bridge leaves of the blocks, for any view of the state that reads neither the Link Port, the
guard, the power mode nor the doze timer (`OffLink`). -/

namespace Sys2Proof.Machine

variable {α : Type} {view : State → α} {s t : State}

/-! ## Views that the link does not move -/

/-- A view of the state that reads nothing a transfer of the bridge moves by itself: the Link Port, the doze timer, and what
waking the part moves (R155, R156, R190, R198). -/
structure OffLink (view : State → α) : Prop where
  onLink : ∀ (s : State) (f : Link → Link), view (s.onLink f) = view s
  dozeFollows : ∀ (s : State) (held : Bool), view (s.dozeFollows held) = view s
  leaveDoze : ∀ s : State, view s.leaveDoze = view s

namespace OffLink

variable (hv : OffLink view)
include hv

theorem wake (s : State) : view s.wake = view s := (hv.onLink _ _).trans (hv.leaveDoze s)

theorem answerWrite (s : State) (a : Answer) : view (s.answerWrite a) = view s := hv.onLink s _

/-- An event is its own effect, or in RETAIN none. -/
theorem event_cases (s : State) (f : State → State) : view (s.event f) = view s ∨ view (s.event f) = view (f s) := by
  unfold State.event
  split
  · exact .inl rfl
  · exact .inr (hv.dozeFollows _ _)

theorem event {f : State → State} (h : view (f s) = view s) : view (s.event f) = view s :=
  (hv.event_cases s f).elim id fun h' => h'.trans h

theorem onBus {f : State → State} (h : view (f s) = view s) (c : Instr) : view (s.onBus c f) = view s := by
  unfold State.onBus
  split
  · exact hv.event (hv.onLink s _)
  · exact hv.event h

/-- A transfer leaves the view to its `rest`, where it comes to that. -/
theorem transfer_cases (s : State) (c : Instr) (dir : Dir) (lost start : Link → Link) (rest : State → State) :
    view (s.transfer c dir lost start rest) = view s ∨
      ∃ b : State, view b = view s ∧ view (s.transfer c dir lost start rest) = view (rest b) := by
  unfold State.transfer
  split
  · exact .inl (hv.onLink s _)
  · split
    · exact .inl (hv.event (hv.onLink s _))
    · split
      · exact .inl (hv.onLink s _)
      · split
        · exact .inl ((hv.dozeFollows _ _).trans ((hv.onLink _ _).trans (hv.wake s)))
        · split
          · exact .inl (hv.onLink s _)
          · exact .inr ⟨_, (hv.dozeFollows _ _).trans (hv.onLink s _), hv.dozeFollows _ _⟩

theorem transfer {rest : State → State} (h : ∀ b, view (rest b) = view b) (s : State) (c : Instr) (dir : Dir)
    (lost start : Link → Link) : view (s.transfer c dir lost start rest) = view s := by
  rcases hv.transfer_cases s c dir lost start rest with hsame | ⟨b, hb, hrest⟩
  · exact hsame
  · rw [hrest, h, hb]

theorem refusedWrite (s : State) (c : Instr) (v : Verdict) (code : Code) (bytes : List Byte) :
    view (s.refusedWrite c v code bytes) = view s := by
  unfold State.refusedWrite
  split
  · exact hv.transfer (fun b => hv.answerWrite b _) s _ _ _ _
  · rfl

/-- A request leaves the view to its owning block, where it reaches that. -/
theorem request_cases (s : State) (c : Instr) (code : Byte) (payload : List Byte) (serve : List Byte → State → Served) :
    view (s.request c code payload serve) = view s ∨
      ∃ p, ∃ b : State, view b = view s ∧ view (s.request c code payload serve) = view (serve p b).1 := by
  unfold State.request
  refine (hv.transfer_cases s _ _ _ _ _).elim .inl ?_
  rintro ⟨b, hb, hrest⟩
  split at hrest
  next p _ => exact .inr ⟨p, b, hb, hrest.trans (hv.answerWrite _ _)⟩
  all_goals exact .inl (hrest.trans ((hv.onLink _ _).trans hb))

theorem addressByte (s : State) (address : BitVec 7) (dir : Dir) : view (s.addressByte address dir) = view s := by
  simp only [State.addressByte]
  split
  · split
    · exact (hv.wake _).trans (hv.onLink s _)
    · exact (hv.onLink _ _).trans (hv.onLink s _)
  · exact (hv.onLink _ _).trans (hv.onLink s _)

theorem answerFormed (s : State) : view s.answerFormed = view s := by
  unfold State.answerFormed
  split
  · exact hv.onLink s _
  · rfl

theorem wakingEnds (s : State) : view s.wakingEnds = view s := by
  unfold State.wakingEnds
  split
  · exact hv.onLink s _
  · rfl

end OffLink

/-! ## What a served request can do -/

section
variable (p : List Byte) (s : State)

theorem serveSetParam_cases : (serveSetParam p s).1 = s ∨ ∃ q v, (serveSetParam p s).1 = s.setParam q v := by
  unfold serveSetParam
  split
  · exact .inl rfl
  · split
    · exact .inl rfl
    · split
      · exact .inl rfl
      · exact .inr ⟨_, _, rfl⟩

theorem serveOpenSurvey_cases :
    (serveOpenSurvey p s).1 = s ∨ ∃ i n w label, (serveOpenSurvey p s).1 = s.openIn i n w label := by
  unfold serveOpenSurvey
  split
  · exact .inl rfl
  · split
    · exact .inl rfl
    · exact .inl rfl
    · exact .inr ⟨_, _, _, _, rfl⟩

theorem serveCheckWrite_cases : (serveCheckWrite p s).1 = s ∨
    ∃ slot window first count, (serveCheckWrite p s).1 = (s.grantOrHold slot window first count).1 := by
  unfold serveCheckWrite
  split
  · exact .inl rfl
  · unfold State.checkRange
    split
    · exact .inl rfl
    · split
      · exact .inl rfl
      · split
        · unfold State.checkCovered
          split
          · exact .inl rfl
          · split
            · exact .inr ⟨_, _, _, _, rfl⟩
            · exact .inl rfl
        · unfold State.checkUncovered
          split
          · exact .inl rfl
          · split
            · exact .inl rfl
            · exact .inr ⟨_, _, _, _, rfl⟩

theorem serveWriteDone_cases : (serveWriteDone p s).1 = s ∨
    ∃ k g result, (serveWriteDone p s).1 = s.removeGrant k g (doneEffect result g.count) := by
  unfold serveWriteDone
  split
  · exact .inl rfl
  · split
    · exact .inl rfl
    · split
      · exact .inl rfl
      · exact .inr ⟨_, _, _, rfl⟩

end

end Sys2Proof.Machine

/-! The reserve: what an evaluation of the level reads (`State.reserve`), which operations leave it, and what every command
does to the cover of R165 (`exec_keepsReserve`). -/

namespace Sys2Proof.Machine

variable {s t u : State}

/-! ## The count of open entries (R9) -/

theorem State.nOpen_eq_countP (s : State) : s.nOpen = slotList.countP fun i => (s.entry i).counted := by
  have h : s.table.entries.toList = slotList.map s.entry := by
    apply List.ext_getElem
    · simp [slotList]
    · intro i h1 h2
      simp [slotList, State.entry]
  rw [State.nOpen, h, List.countP_map]
  rfl

/-- n_open reads which records are counted. -/
theorem State.nOpen_congr (h : ∀ i, (t.entry i).counted = (s.entry i).counted) : t.nOpen = s.nOpen := by
  simp only [State.nOpen_eq_countP, h]

theorem State.nOpen_of_table (h : t.table = s.table) : t.nOpen = s.nOpen := by rw [State.nOpen, h, State.nOpen]

theorem State.nOpen_setEntry {i : Fin 64} {e : Entry} (h : e.counted = (s.entry i).counted) :
    (s.setEntry i e).nOpen = s.nOpen := by
  refine State.nOpen_congr fun j => ?_
  by_cases hj : j = i
  · subst hj
    rwa [State.entry_setEntry_same]
  · rw [s.entry_setEntry_ne hj]

theorem State.nOpen_joltMarking (s : State) : s.joltMarking.nOpen = s.nOpen := by
  refine State.nOpen_congr fun i => ?_
  rw [State.joltMarking, State.entry_mapEntries]
  split <;> rfl

theorem State.nOpen_of_joltedTo (h : s.JoltedTo t) : t.nOpen = s.nOpen := by
  rcases h with h | h
  · exact State.nOpen_of_table h
  · exact (State.nOpen_of_table h).trans s.nOpen_joltMarking

/-! ## What the cover of R165 reads -/

/-- The level, R_park, R_entry, Q and n_open. -/
def State.reserve (s : State) : Level × Nat × Nat × Nat × Nat :=
  (s.supply.level, s.supply.rPark, s.supply.rEntry, s.gauge.q, s.nOpen)

theorem State.reserve_congr (hsupply : t.supply = s.supply) (hgauge : t.gauge = s.gauge) (hopen : t.nOpen = s.nOpen) :
    t.reserve = s.reserve := by
  simp only [State.reserve, hsupply, hgauge, hopen]

theorem offLink_reserve : OffLink State.reserve where
  onLink _ _ := rfl
  dozeFollows s held := by
    unfold State.dozeFollows
    (repeat' split) <;> rfl
  leaveDoze _ := rfl

/-- From a reserve covered at AMPLE, it is so again. -/
def State.KeepsReserve (s t : State) : Prop := s.reserveInOrder → t.reserveInOrder

theorem State.KeepsReserve.of_eq (h : t.reserve = s.reserve) : s.KeepsReserve t := by
  simp only [State.reserve, Prod.mk.injEq] at h
  obtain ⟨hlevel, hpark, hentry, hq, hopen⟩ := h
  unfold State.KeepsReserve State.reserveInOrder
  rw [hlevel, hpark, hentry, hq, hopen]
  exact id

theorem State.KeepsReserve.of_inOrder (h : t.reserveInOrder) : s.KeepsReserve t := fun _ => h

theorem State.KeepsReserve.refl (s : State) : s.KeepsReserve s := id

theorem State.KeepsReserve.congr_left (h : t.KeepsReserve u) (ht : t.reserve = s.reserve) : s.KeepsReserve u :=
  fun hs => h (State.KeepsReserve.of_eq ht hs)

theorem State.KeepsReserve.congr_right (h : s.KeepsReserve t) (hu : u.reserve = t.reserve) : s.KeepsReserve u :=
  fun hs => State.KeepsReserve.of_eq hu (h hs)

/-! ## An evaluation covers the reserve (R165) -/

/-- R165: every way to AMPLE asks for the LOW threshold. -/
theorem le_of_nextLevel_ample {before : Level} {q thr rPark hyst : Nat} {emptyCorrection : Bool}
    (h : nextLevel before q thr rPark hyst emptyCorrection = .ample) : thr ≤ q := by
  cases before <;> simp only [nextLevel] at h <;> split_ifs at h <;> omega

theorem State.reserveInOrder_judged (s : State) (empty : Bool) : (s.judged empty).reserveInOrder :=
  le_of_nextLevel_ample

/-- The hand-off to the sequencer may wake the part, and moves nothing an evaluation reads. -/
theorem State.reserve_handCritical (s : State) (was : Bool) : (s.handCritical was).reserve = s.reserve := by
  have hwake : s.wakeForPowerUp.powerUpCheck.reserve = s.reserve := by
    have hcheck : s.wakeForPowerUp.powerUpCheck.reserve = s.wakeForPowerUp.reserve :=
      State.reserve_congr (by simp) (by simp) (State.nOpen_of_table (by simp))
    rw [hcheck]
    unfold State.wakeForPowerUp
    split <;> rfl
  unfold State.handCritical
  split
  · split
    · exact State.reserve_congr (by simp) (by simp) (State.nOpen_of_table (by simp))
    all_goals rfl
  · split
    · split
      · split <;> rfl
      · exact hwake
      all_goals rfl
    · rfl

theorem State.reserveInOrder_evaluate (s : State) (was empty : Bool) : (s.evaluate was empty).reserveInOrder := by
  rw [State.evaluate_eq_handCritical]
  exact State.KeepsReserve.of_eq (State.reserve_handCritical _ was) (s.reserveInOrder_judged empty)

theorem State.reserveInOrder_openChanged (s : State) : s.openChanged.reserveInOrder := s.reserveInOrder_evaluate _ _

/-! ## The custody of an entry, and the grants -/

theorem State.reserve_setEntry {i : Fin 64} {e : Entry} (h : e.counted = (s.entry i).counted) :
    (s.setEntry i e).reserve = s.reserve :=
  State.reserve_congr (by simp) (by simp) (State.nOpen_setEntry h)

theorem State.reserve_modifyEntry {i : Fin 64} {f : Entry → Entry}
    (h : (f (s.entry i)).counted = (s.entry i).counted) : (s.modifyEntry i f).reserve = s.reserve :=
  State.reserve_setEntry h

theorem State.reserve_clearEntry {i : Fin 64} (h : (s.entry i).counted = false) : (s.clearEntry i).reserve = s.reserve :=
  State.reserve_setEntry h.symm

theorem Entry.counted_of_state {e e' : Entry} (h : e'.state = e.state) : e'.counted = e.counted := by
  rw [Entry.counted, h, Entry.counted]

theorem State.reserveInOrder_sealEntry (s : State) (i : Fin 64) : (s.sealEntry i).reserveInOrder := by
  simp only [State.sealEntry]
  split
  · exact State.KeepsReserve.of_eq rfl (State.reserveInOrder_openChanged _)
  · exact State.reserveInOrder_openChanged _

theorem State.keepsReserve_settleEntry (s : State) (i : Fin 64) : s.KeepsReserve (s.settleEntry i) := by
  unfold State.settleEntry
  split
  · exact .refl s
  · split
    next h =>
      have hclear : (s.clearEntry i).reserve = s.reserve := State.reserve_clearEntry (by simp [Entry.counted, h])
      exact .of_eq hclear
    next =>
      split
      · exact .refl s
      · exact .of_inOrder (s.reserveInOrder_sealEntry i)
    all_goals exact .refl s

theorem State.reserve_emptySignal (s : State) : s.emptySignal.reserve = s.reserve :=
  State.reserve_congr (by simp) (by simp) (State.nOpen_of_table (by simp))

theorem State.keepsReserve_removeGrant (s : State) (k : Fin 8) (g : Grant) {f : Entry → Entry}
    (hf : ∀ e, (f e).state = e.state) : s.KeepsReserve (s.removeGrant k g f) := by
  have hgrant : (s.setGrant k none).reserve = s.reserve := rfl
  simp only [State.removeGrant]
  split
  next i _ =>
    have heffect : ((s.setGrant k none).modifyEntry i f).reserve = (s.setGrant k none).reserve :=
      State.reserve_modifyEntry (Entry.counted_of_state (hf _))
    exact ((State.keepsReserve_settleEntry _ i).congr_left (heffect.trans hgrant)).congr_right (State.reserve_emptySignal _)
  next => exact .of_eq ((State.reserve_emptySignal _).trans hgrant)

/-! ## Events and requests -/

theorem State.KeepsReserve.event {f : State → State} (h : s.KeepsReserve (f s)) : s.KeepsReserve (s.event f) := by
  rcases offLink_reserve.event_cases s f with hsame | heffect
  · exact .of_eq hsame
  · exact h.congr_right heffect

theorem State.KeepsReserve.phaseExpiry {f : State → State} (h : s.KeepsReserve (f s)) (state : SeqState) :
    s.KeepsReserve (s.phaseExpiry state f) := by
  unfold State.phaseExpiry
  split
  · exact h
  · exact .refl s

/-- An event of the guard or the sequencer, which leaves the supply, the gauge and what n_open counts. -/
theorem State.KeepsReserve.of_leavesSupply (h : s.LeavesSupply t) (hgauge : t.gauge = s.gauge) (hopen : t.nOpen = s.nOpen) :
    s.KeepsReserve t :=
  .of_eq (State.reserve_congr h.supply hgauge hopen)

theorem State.KeepsReserve.request {serve : List Byte → State → Served}
    (h : ∀ p (b : State), b.KeepsReserve (serve p b).1) (c : Instr) (code : Byte) (payload : List Byte) :
    s.KeepsReserve (s.request c code payload serve) := by
  rcases offLink_reserve.request_cases s c code payload serve with hsame | ⟨p, b, hb, hserve⟩
  · exact .of_eq hsame
  · exact ((h p b).congr_left hb).congr_right hserve

theorem State.KeepsReserve.onSurvey {n : Nat} {act : Fin 64 → Served} (h : ∀ i, s.KeepsReserve (act i).1) :
    s.KeepsReserve (s.onSurvey n act).1 := by
  unfold State.onSurvey
  split
  · exact .refl s
  · split
    · exact .refl s
    next i _ => exact h i

/-! ## The requests -/

@[simp] theorem State.setTarget_supply (s : State) (target : Target) : (s.setTarget target).supply = s.supply := by
  simp only [State.setTarget, State.actOnTarget]
  (repeat' split) <;> simp

@[simp] theorem State.setCycleDelay_supply (s : State) (d : Nat) : (s.setCycleDelay d).supply = s.supply := by
  simp only [State.setCycleDelay]
  (repeat' split) <;> simp

theorem keepsReserve_serveReadStatus (p : List Byte) (s : State) : s.KeepsReserve (serveReadStatus p s).1 := by
  unfold serveReadStatus
  split <;> exact .of_eq rfl

theorem keepsReserve_serveClearAttention (p : List Byte) (s : State) : s.KeepsReserve (serveClearAttention p s).1 := by
  unfold serveClearAttention
  (repeat' split) <;> exact .of_eq rfl

theorem keepsReserve_serveSetClock (p : List Byte) (s : State) : s.KeepsReserve (serveSetClock p s).1 := by
  unfold serveSetClock
  split <;> exact .of_eq rfl

theorem keepsReserve_serveRestart (p : List Byte) (s : State) : s.KeepsReserve (serveRestart p s).1 := by
  unfold serveRestart
  split
  · exact .refl s
  · refine .of_inOrder ?_
    simp only [State.restart]
    exact State.KeepsReserve.of_eq rfl (State.reserveInOrder_evaluate _ _ _)

/-- R165, R166: the parameters that an evaluation reads are followed by one; no other moves what it reads. -/
theorem keepsReserve_setParam (s : State) (q : Param) (v : Nat) : s.KeepsReserve (s.setParam q v) := by
  cases q
  case capacity | rPark | rEntry | hyst => exact .of_inOrder (State.reserveInOrder_evaluate _ _ _)
  case blindPolicy | cycleDelay =>
    exact .of_eq (State.reserve_congr (by simp [State.setParam]) (by simp [State.setParam])
      (State.nOpen_of_table (by simp [State.setParam])))
  all_goals exact .of_eq rfl

theorem keepsReserve_serveSetParam (p : List Byte) (s : State) : s.KeepsReserve (serveSetParam p s).1 := by
  rcases serveSetParam_cases p s with h | ⟨q, v, h⟩ <;> rw [h]
  · exact .refl s
  · exact keepsReserve_setParam s q v

theorem keepsReserve_serveOpenSurvey (p : List Byte) (s : State) : s.KeepsReserve (serveOpenSurvey p s).1 := by
  rcases serveOpenSurvey_cases p s with h | ⟨i, n, w, label, h⟩ <;> rw [h]
  · exact .refl s
  · exact .of_inOrder (State.reserveInOrder_openChanged _)

theorem keepsReserve_serveAddWindow (p : List Byte) (s : State) : s.KeepsReserve (serveAddWindow p s).1 := by
  unfold serveAddWindow
  split
  · exact .refl s
  · split
    · exact .refl s
    · refine .onSurvey fun i => ?_
      split
      · exact .refl s
      · exact .of_eq (State.reserve_modifyEntry rfl)

theorem keepsReserve_serveDropWindow (p : List Byte) (s : State) : s.KeepsReserve (serveDropWindow p s).1 := by
  unfold serveDropWindow
  split
  · exact .refl s
  · refine .onSurvey fun i => ?_
    split
    · exact .refl s
    · exact .refl s
    · exact .of_eq (State.reserve_modifyEntry rfl)

theorem keepsReserve_serveRename (p : List Byte) (s : State) : s.KeepsReserve (serveRename p s).1 := by
  unfold serveRename
  split
  · exact .refl s
  · split
    · exact .refl s
    · exact .onSurvey fun i => .of_eq (State.reserve_modifyEntry rfl)

theorem keepsReserve_serveSetHold (p : List Byte) (s : State) : s.KeepsReserve (serveSetHold p s).1 := by
  unfold serveSetHold
  split
  · exact .refl s
  · exact .onSurvey fun i => .of_eq (State.reserve_modifyEntry rfl)

/-- R73: the entry a RESTORE builds in a FREE slot is SEALED, and n_open counts neither. -/
theorem keepsReserve_serveRestore (p : List Byte) (s : State) : s.KeepsReserve (serveRestore p s).1 := by
  unfold serveRestore
  split
  · exact .refl s
  · split
    · exact .refl s
    · exact .refl s
    next i _ hfree =>
      refine .of_eq (State.reserve_setEntry ?_)
      rw [Entry.counted, Entry.counted, State.free_of_lowestFree hfree]
      rfl

theorem keepsReserve_sealAt (s : State) (i : Fin 64) (n : Nat) : s.KeepsReserve (s.sealAt i n).1 := by
  unfold State.sealAt
  split
  next h =>
    split
    · exact .of_eq (State.reserve_modifyEntry (by simp [Entry.counted, Entry.withState, h]))
    · exact .of_inOrder (s.reserveInOrder_sealEntry i)
  all_goals exact .refl s

theorem keepsReserve_verifiedAt (s : State) (i : Fin 64) (n : Nat) : s.KeepsReserve (s.verifiedAt i n).1 := by
  unfold State.verifiedAt
  split
  · split
    · exact .refl s
    · exact .of_eq (State.reserve_modifyEntry rfl)
  · split
    · exact .refl s
    · exact .of_inOrder (State.reserveInOrder_sealEntry _ i)
  all_goals exact .refl s

theorem keepsReserve_reopenAt (s : State) (i : Fin 64) (n : Nat) : s.KeepsReserve (s.reopenAt i n).1 := by
  unfold State.reopenAt
  split
  next h => exact .of_eq (State.reserve_modifyEntry (by simp [Entry.counted, Entry.withState, h]))
  all_goals exact .refl s

/-- R9, R66: retiring an open entry is followed by an evaluation; a SEALED one is not counted. -/
theorem keepsReserve_retireAt (s : State) (i : Fin 64) (n : Nat) : s.KeepsReserve (s.retireAt i n).1 := by
  unfold State.retireAt
  split
  · exact .refl s
  · split
    next h => exact .of_eq (State.reserve_clearEntry (by simp [Entry.counted, h]))
    · split <;> exact .of_inOrder (State.reserveInOrder_openChanged _)
    · split <;> exact .of_inOrder (State.reserveInOrder_openChanged _)
    all_goals exact .refl s

theorem keepsReserve_serveSeal (p : List Byte) (s : State) : s.KeepsReserve (serveSeal p s).1 := by
  unfold serveSeal
  split
  · exact .refl s
  · exact .onSurvey fun i => keepsReserve_sealAt s i _

theorem keepsReserve_serveVerified (p : List Byte) (s : State) : s.KeepsReserve (serveVerified p s).1 := by
  unfold serveVerified
  split
  · exact .refl s
  · exact .onSurvey fun i => keepsReserve_verifiedAt s i _

theorem keepsReserve_serveReopen (p : List Byte) (s : State) : s.KeepsReserve (serveReopen p s).1 := by
  unfold serveReopen
  split
  · exact .refl s
  · exact .onSurvey fun i => keepsReserve_reopenAt s i _

theorem keepsReserve_serveRetire (p : List Byte) (s : State) : s.KeepsReserve (serveRetire p s).1 := by
  unfold serveRetire
  split
  · exact .refl s
  · exact .onSurvey fun i => keepsReserve_retireAt s i _

theorem keepsReserve_grantOrHold (s : State) (slot : Option (Fin 64)) (window first count : Nat) :
    s.KeepsReserve (s.grantOrHold slot window first count).1 := by
  unfold State.grantOrHold
  split
  · exact .refl s
  · exact .refl s
  · split
    · exact .of_eq (State.reserve_modifyEntry rfl)
    · exact .of_eq rfl

theorem keepsReserve_serveCheckWrite (p : List Byte) (s : State) : s.KeepsReserve (serveCheckWrite p s).1 := by
  rcases serveCheckWrite_cases p s with h | ⟨slot, window, first, count, h⟩ <;> rw [h]
  · exact .refl s
  · exact keepsReserve_grantOrHold s slot window first count

theorem keepsReserve_serveWriteDone (p : List Byte) (s : State) : s.KeepsReserve (serveWriteDone p s).1 := by
  rcases serveWriteDone_cases p s with h | ⟨k, g, result, h⟩ <;> rw [h]
  · exact .refl s
  · exact s.keepsReserve_removeGrant k g (Entry.doneEffect_state _ _)

theorem keepsReserve_serveSetTarget (p : List Byte) (s : State) : s.KeepsReserve (serveSetTarget p s).1 := by
  unfold serveSetTarget
  split
  · exact .refl s
  · exact .of_eq (State.reserve_congr (by simp) (by simp) (State.nOpen_of_table (by simp)))

theorem keepsReserve_serveSetCharge (p : List Byte) (s : State) : s.KeepsReserve (serveSetCharge p s).1 := by
  unfold serveSetCharge
  split
  · exact .refl s
  · exact .of_inOrder (State.reserveInOrder_evaluate _ _ _)

/-! ## The events -/

theorem State.keepsReserve_expireGrant (s : State) (k : Fin 8) : s.KeepsReserve (s.expireGrant k) := by
  unfold State.expireGrant
  split
  · exact .refl s
  next g _ =>
    split
    · have hraise : (s.raise .expired).reserve = s.reserve := rfl
      exact (State.keepsReserve_removeGrant (s.raise .expired) k g (f := Entry.mark) fun _ => rfl).congr_left hraise
    · exact .refl s

theorem State.keepsReserve_periodEnds (s : State) (code volts : BitVec 16) : s.KeepsReserve (s.periodEnds code volts) := by
  simp only [State.periodEnds]
  split
  · exact .refl s
  · exact .of_inOrder (State.reserveInOrder_evaluate _ _ _)

theorem State.keepsReserve_sprsChanges (s : State) (present : Bool) : s.KeepsReserve (s.sprsChanges present) := by
  simp only [State.sprsChanges]
  split
  · exact .refl s
  · exact .of_inOrder (State.reserveInOrder_evaluate _ _ _)

theorem State.keepsReserve_dozeExpiry (s : State) : s.KeepsReserve s.dozeExpiry := by
  unfold State.dozeExpiry
  split
  · exact .of_eq rfl
  · exact .refl s

theorem State.reserveInOrder_warmStart (s : State) (sprs adsel : Bool) : (s.warmStart sprs adsel).reserveInOrder := by
  rw [State.warmStart_eq]
  exact State.KeepsReserve.of_eq rfl (State.reserveInOrder_judged _ _)

theorem State.reserveInOrder_cold (sprs adsel : Bool) (pins : Pins) (n : Nat) (q : List Instr) :
    (State.cold sprs adsel pins n q).reserveInOrder := nofun

/-! ## The commands -/

/-- Every command keeps the reserve covered at AMPLE. -/
theorem exec_keepsReserve (c : Instr) (h : exec c s = .next t) : s.KeepsReserve t := by
  have steady {f : State → State} (hsupply : s.LeavesSupply (f s)) (hgauge : (f s).gauge = s.gauge)
      (htable : (f s).table = s.table) : s.KeepsReserve (s.event f) :=
    .event (.of_leavesSupply hsupply hgauge (State.nOpen_of_table htable))
  have phase {f : State → State} (hsupply : s.LeavesSupply (f s)) (hgauge : (f s).gauge = s.gauge)
      (htable : (f s).table = s.table) (state : SeqState) : s.KeepsReserve (s.event (State.phaseExpiry state f)) :=
    .event (.phaseExpiry (.of_leavesSupply hsupply hgauge (State.nOpen_of_table htable)) state)
  have reported {serve : List Byte → State → Served} (hf : ∀ p (b : State), (serve p b).1 = b) (c : Instr)
      (code : Byte) (p : List Byte) : s.KeepsReserve (s.request c code p serve) :=
    .request (fun p b => by rw [hf p b]; exact .refl b) c code p
  cases c <;> cases h
  case readStatus => exact .request keepsReserve_serveReadStatus _ _ _
  case clearAttention => exact .request keepsReserve_serveClearAttention _ _ _
  case restart => exact .request keepsReserve_serveRestart _ _ _
  case setParam => exact .request keepsReserve_serveSetParam _ _ _
  case setClock => exact .request keepsReserve_serveSetClock _ _ _
  case openSurvey => exact .request keepsReserve_serveOpenSurvey _ _ _
  case addWindow => exact .request keepsReserve_serveAddWindow _ _ _
  case dropWindow => exact .request keepsReserve_serveDropWindow _ _ _
  case rename => exact .request keepsReserve_serveRename _ _ _
  case verified => exact .request keepsReserve_serveVerified _ _ _
  case reopen => exact .request keepsReserve_serveReopen _ _ _
  case setHold => exact .request keepsReserve_serveSetHold _ _ _
  case retire => exact .request keepsReserve_serveRetire _ _ _
  case restore => exact .request keepsReserve_serveRestore _ _ _
  case checkWrite => exact .request keepsReserve_serveCheckWrite _ _ _
  case writeDone => exact .request keepsReserve_serveWriteDone _ _ _
  case setTarget => exact .request keepsReserve_serveSetTarget _ _ _
  case setCharge => exact .request keepsReserve_serveSetCharge _ _ _
  case readParam => exact reported (fun p b => serveReadParam_state b p) _ _ _
  case readClock => exact reported (fun p b => serveReadClock_state b p) _ _ _
  case findSurvey => exact reported (fun p b => serveFindSurvey_state b p) _ _ _
  case findBlock => exact reported (fun p b => serveFindBlock_state b p) _ _ _
  case readEntry => exact reported (fun p b => serveReadEntry_state b p) _ _ _
  case nextEntry => exact reported (fun p b => serveNextEntry_state b p) _ _ _
  case readGrants => exact reported (fun p b => serveReadGrants_state b p) _ _ _
  case readGuard => exact reported (fun p b => serveReadGuard_state b p) _ _ _
  case readMechanism => exact reported (fun p b => serveReadMechanism_state b p) _ _ _
  case readGauge => exact reported (fun p b => serveReadGauge_state b p) _ _ _
  -- SEAL, whose name is a keyword of Lean, is the first command left
  next => exact .request keepsReserve_serveSeal _ _ _
  case malformed | unknown => exact .of_eq (offLink_reserve.refusedWrite s _ _ _ _)
  case emptyWrite | answerRead => exact .of_eq (offLink_reserve.transfer (fun b => offLink_reserve.onLink b _) s _ _ _ _)
  case addressMatch address dir =>
    split
    · exact .of_eq rfl
    · exact .of_eq (offLink_reserve.onBus (offLink_reserve.addressByte s address dir) _)
  case wakingTransferEnd => exact .of_eq (offLink_reserve.onBus (offLink_reserve.wakingEnds s) _)
  case answerFormed => exact .of_eq (offLink_reserve.event (offLink_reserve.answerFormed s))
  case linkClear => exact .of_eq (offLink_reserve.event (s := s.setLclr false) rfl)
  case linkClearRelease => exact .of_eq rfl
  case sampleTimerExpiry => exact steady s.leavesSupply_sampleExpiry s.sampleExpiry_gauge s.sampleExpiry_table
  case setupComplete => exact steady (s.leavesSupply_setupEnds _) (s.setupEnds_gauge _) (s.setupEnds_table _)
  case readComplete =>
    exact .event (.of_leavesSupply (s.leavesSupply_readEnds _) (s.readEnds_gauge _)
      (State.nOpen_of_joltedTo (s.joltedTo_readEnds _)))
  case settleTimerExpiry => exact steady s.leavesSupply_settleExpiry s.settleExpiry_gauge s.settleExpiry_table
  case grantDeadlineExpiry slot => exact .event (s.keepsReserve_expireGrant slot)
  case supplySettleExpiry => exact phase s.leavesSupply_supplySettles s.supplySettles_gauge s.supplySettles_table _
  case spinTimeoutExpiry => exact phase s.leavesSupply_spinTimesOut s.spinTimesOut_gauge s.spinTimesOut_table _
  case unloadTimeExpiry => exact phase s.leavesSupply_unloads s.unloads_gauge s.unloads_table _
  case spinDownExpiry => exact phase s.leavesSupply_enterCycleWait s.enterCycleWait_gauge s.enterCycleWait_table _
  case cycleDelayExpiry => exact phase s.leavesSupply_offReached s.offReached_gauge s.offReached_table _
  case drdyAsserted =>
    exact State.KeepsReserve.event (s := s.setDrdy true) (.of_leavesSupply (State.leavesSupply_drdyRises _)
      (State.drdyRises_gauge _) (State.nOpen_of_table (State.drdyRises_table _)))
  case drdyReleased =>
    exact State.KeepsReserve.event (s := s.setDrdy false) (.of_leavesSupply (State.leavesSupply_drdyFalls _)
      (State.drdyFalls_gauge _) (State.nOpen_of_table (State.drdyFalls_table _)))
  case periodEnd code volts => exact .event (s.keepsReserve_periodEnds code volts)
  case sprsChange present => exact .event (s.keepsReserve_sprsChanges present)
  case dozeTimerExpiry => exact .event s.keepsReserve_dozeExpiry
  case enterRetain | retainedContentsLoss | secondStep => split <;> exact .of_eq rfl
  case coldStart sprs adsel =>
    split
    · rw [State.coldStart_eq]
      exact .of_inOrder (State.reserveInOrder_cold sprs adsel s.pins s.freeCount s.pending)
    · exact .refl s
  case warmStart sprs adsel =>
    split
    · exact .of_inOrder (s.reserveInOrder_warmStart sprs adsel)
    · exact .refl s

theorem State.keepsReserve_tick (s : State) : s.KeepsReserve s.tick := by
  unfold State.tick
  split <;> exact .of_eq rfl

/-- Settles O59: what moves a term of R165 is followed by an evaluation, which covers the reserve
(`State.reserveInOrder_evaluate`); all else leaves the terms as they are (`State.reserve`). -/
theorem reserveStaysCovered : Obligations.ReserveStaysCovered := by
  intro s t hs h
  unfold step at h
  split at h
  · cases h
    exact s.keepsReserve_tick hs
  next c rest _ => exact exec_keepsReserve (s := { s with pending := rest }) c h hs

end Sys2Proof.Machine

/-! The two counts, LOST and the pending causes (`State.ledger`): what each operation raises (`State.Raises`), and what every
command does to them (`exec_movesByRule`). -/

namespace Sys2Proof.Machine

variable {s t u : State} {may : Cause → Prop} {c : Instr}

/-! ## The ledger -/

/-- The two counts (R168), the LOST flag (R163) and the pending set (R179). -/
def State.ledger (s : State) : Clock × Bool × BitVec 11 := (s.clock, s.supply.lost, s.attention.pending)

theorem State.ledger_congr (hclock : t.clock = s.clock) (hsupply : t.supply = s.supply)
    (hattention : t.attention = s.attention) : t.ledger = s.ledger := by
  simp only [State.ledger, hclock, hsupply, hattention]

theorem State.ledger_onGuard (s : State) (f : Guard → Guard) : (s.onGuard f).ledger = s.ledger := rfl
theorem State.ledger_onSeq (s : State) (f : Sequencer → Sequencer) : (s.onSeq f).ledger = s.ledger := rfl

theorem offLink_ledger : OffLink State.ledger where
  onLink _ _ := rfl
  dozeFollows s held := by
    unfold State.dozeFollows
    (repeat' split) <;> rfl
  leaveDoze _ := rfl

/-- The counts and LOST stand, no pending cause is removed, and a cause that joins them may do so (R180). -/
structure State.Raises (may : Cause → Prop) (s t : State) : Prop where
  clock : t.clock = s.clock
  lost : t.supply.lost = s.supply.lost
  kept : ∀ c, s.isPending c = true → t.isPending c = true
  raised : ∀ c, t.isPending c = true → s.isPending c = true ∨ may c

theorem State.Raises.of_eq (h : t.ledger = s.ledger) : s.Raises may t := by
  simp only [State.ledger, Prod.mk.injEq] at h
  obtain ⟨hclock, hlost, hpending⟩ := h
  have hsame (c : Cause) : t.isPending c = s.isPending c := by rw [State.isPending, hpending, State.isPending]
  exact ⟨hclock, hlost, fun c hc => (hsame c).trans hc, fun c hc => .inl ((hsame c).symm.trans hc)⟩

theorem State.Raises.refl (s : State) : s.Raises may s := .of_eq rfl

theorem State.Raises.trans (h : s.Raises may t) (h' : t.Raises may u) : s.Raises may u where
  clock := h'.clock.trans h.clock
  lost := h'.lost.trans h.lost
  kept c hc := h'.kept c (h.kept c hc)
  raised c hc := (h'.raised c hc).elim (h.raised c) .inr

theorem State.Raises.congr_left (h : t.Raises may u) (ht : t.ledger = s.ledger) : s.Raises may u := .trans (.of_eq ht) h

theorem State.Raises.congr_right (h : s.Raises may t) (hu : u.ledger = t.ledger) : s.Raises may u := .trans h (.of_eq hu)

theorem State.Raises.raise {c : Cause} (h : s.Raises may t) (hc : may c) : s.Raises may (t.raise c) := by
  refine .trans h ⟨by simp, by simp, fun d hd => (State.isPending_raise t c d).mpr (.inr hd), fun d hd => ?_⟩
  rcases (State.isPending_raise t c d).mp hd with rfl | hd
  · exact .inr hc
  · exact .inl hd

/-! ## The sequencer (R104 to R118) -/

section
variable (s : State)

theorem State.ledger_powerUpCheck : s.powerUpCheck.ledger = s.ledger := State.ledger_congr (by simp) (by simp) (by simp)
theorem State.ledger_wayDown : s.wayDown.ledger = s.ledger := State.ledger_congr (by simp) (by simp) (by simp)
theorem State.ledger_emptySignal : s.emptySignal.ledger = s.ledger := State.ledger_congr (by simp) (by simp) (by simp)
theorem State.ledger_guardEnters (g : GuardState) : (s.guardEnters g).ledger = s.ledger :=
  State.ledger_congr (by simp) (by simp) (by simp)

theorem State.ledger_setTarget (target : Target) : (s.setTarget target).ledger = s.ledger := by
  have haimed : (s.onSeq (Sequencer.aim target)).ledger = s.ledger := rfl
  unfold State.setTarget State.actOnTarget
  split
  · exact (State.ledger_powerUpCheck _).trans haimed
  · split
    · exact (State.ledger_wayDown _).trans haimed
    · rfl
  · split <;> rfl
  all_goals rfl

end

section
variable (s : State) (hm : may .mechanism)
include hm

theorem State.raises_readyReached : s.Raises may s.readyReached := by
  have hready : s.Raises may ((s.onSeq Sequencer.toReady).raise .mechanism) := .raise (.of_eq rfl) hm
  simp only [State.readyReached]
  split
  · exact hready.congr_right (State.ledger_wayDown _)
  · exact hready

theorem State.raises_offReached : s.Raises may s.offReached :=
  .congr_right (.raise (.of_eq rfl) hm) (State.ledger_powerUpCheck ((s.onSeq Sequencer.toOff).raise .mechanism))

theorem State.raises_enterCycleWait : s.Raises may s.enterCycleWait := by
  simp only [State.enterCycleWait]
  split
  · exact (State.raises_offReached _ hm).congr_left rfl
  · exact .of_eq rfl

theorem State.raises_supplySettles : s.Raises may s.supplySettles := by
  simp only [State.supplySettles]
  split
  · exact (State.raises_readyReached _ hm).congr_left rfl
  · exact .of_eq rfl

theorem State.raises_spinTimesOut : s.Raises may s.spinTimesOut := .raise (.of_eq rfl) hm

theorem State.raises_drdyRises : s.Raises may s.drdyRises := by
  unfold State.drdyRises
  split
  · exact s.raises_readyReached hm
  · exact .refl s

theorem State.raises_drdyFalls : s.Raises may s.drdyFalls := by
  unfold State.drdyFalls
  split
  · exact .raise (.of_eq rfl) hm
  · exact .raise (.of_eq rfl) hm
  all_goals exact .refl s

theorem State.raises_setCycleDelay (d : Nat) : s.Raises may (s.setCycleDelay d) := by
  simp only [State.setCycleDelay]
  split
  · split
    · exact (State.raises_offReached _ hm).congr_left rfl
    · exact .of_eq rfl
  · exact .of_eq rfl

end

/-! ## The level (R165, R166) -/

theorem State.ledger_handCritical (s : State) (was : Bool) : (s.handCritical was).ledger = s.ledger := by
  have hwake : s.wakeForPowerUp.powerUpCheck.ledger = s.ledger := by
    rw [State.ledger_powerUpCheck]
    unfold State.wakeForPowerUp
    split <;> rfl
  unfold State.handCritical
  split
  · split
    · exact s.ledger_wayDown
    all_goals rfl
  · split
    · split
      · split <;> rfl
      · exact hwake
      all_goals rfl
    · rfl

section
variable (s : State) (hb : may .battery)
include hb

theorem State.raises_evaluate (was empty : Bool) : s.Raises may (s.evaluate was empty) := by
  have hjudged : s.Raises may (s.judged empty) := by
    refine ⟨rfl, rfl, fun c hc => (s.isPending_judged empty c).mpr (.inr hc), fun c hc => ?_⟩
    rcases (s.isPending_judged empty c).mp hc with ⟨rfl, -⟩ | hc
    · exact .inr hb
    · exact .inl hc
  rw [State.evaluate_eq_handCritical]
  exact hjudged.congr_right (State.ledger_handCritical _ was)

theorem State.raises_openChanged : s.Raises may s.openChanged := s.raises_evaluate hb _ _

theorem State.raises_periodEnds (code volts : BitVec 16) : s.Raises may (s.periodEnds code volts) := by
  simp only [State.periodEnds]
  split
  · exact .refl s
  · exact (State.raises_evaluate _ hb _ _).congr_left rfl

theorem State.raises_sprsChanges (hs : may .supply) (present : Bool) :
    s.Raises may (s.sprsChanges present) := by
  simp only [State.sprsChanges]
  split
  · exact .refl s
  · refine .trans (.raise (.of_eq ?_) hs) (State.raises_evaluate _ hb _ _)
    split <;> rfl

/-- R56: an entry sealed from CLOSING raises SEALED. -/
theorem State.raises_sealEntry (i : Fin 64) (hs : (s.entry i).state = .closing → may .sealed) :
    s.Raises may (s.sealEntry i) := by
  have hopen : s.Raises may
      (s.modifyEntry i fun e => { e with state := .sealed, sealed := some s.clock.driveClock }).openChanged :=
    (State.raises_openChanged _ hb).congr_left rfl
  simp only [State.sealEntry]
  split
  next hc => exact hopen.raise (hs (by simpa using hc))
  next => exact hopen

end

/-! ## Custody and grants (R46, R47) -/

section
variable (s : State) (hf : may .freed)
include hf

/-- R46: an entry with its mark set is not sealed as its last grant is removed. -/
theorem State.raises_settleEntry (i : Fin 64)
    (hs : (s.entry i).verify = true ∨ (may .battery ∧ may .sealed)) : s.Raises may (s.settleEntry i) := by
  unfold State.settleEntry
  split
  · exact .refl s
  · split
    · exact .raise (.of_eq rfl) hf
    · split
      · exact .refl s
      next hv =>
        obtain ⟨hb, hc⟩ := hs.resolve_left hv
        exact s.raises_sealEntry hb i fun _ => hc
    all_goals exact .refl s

theorem State.raises_removeGrant (k : Fin 8) (g : Grant) (f : Entry → Entry)
    (hs : (∀ e, (f e).verify = true) ∨ (may .battery ∧ may .sealed)) : s.Raises may (s.removeGrant k g f) := by
  simp only [State.removeGrant]
  split
  next i _ =>
    have hentry : (((s.setGrant k none).modifyEntry i f).entry i).verify = true ∨ (may .battery ∧ may .sealed) := by
      rw [State.entry_modifyEntry_same]
      exact hs.imp_left fun h => h _
    have hsettled : s.Raises may (((s.setGrant k none).modifyEntry i f).settleEntry i) :=
      (State.raises_settleEntry _ hf i hentry).congr_left rfl
    exact hsettled.congr_right (State.ledger_emptySignal _)
  next => exact .of_eq (State.ledger_emptySignal _)

theorem State.raises_expireGrant (he : may .expired) (k : Fin 8) : s.Raises may (s.expireGrant k) := by
  unfold State.expireGrant
  split
  · exact .refl s
  next g _ =>
    split
    · exact .trans (.raise (.refl s) he) (State.raises_removeGrant _ hf k g Entry.mark (.inl fun _ => rfl))
    · exact .refl s

end

/-! ## The guard (R77 to R94) -/

section
variable (s : State) (hs : may .sensor)
include hs

theorem State.raises_missSample : s.Raises may s.missSample := by
  unfold State.missSample
  split
  · exact .refl s
  · split
    · exact .congr_right (.raise (.of_eq rfl) hs) (State.ledger_guardEnters ((s.onGuard Guard.goBlind).raise .sensor) _)
    · exact .of_eq rfl

theorem State.raises_transferFailed : s.Raises may s.transferFailed :=
  (State.raises_missSample _ hs).congr_left rfl

theorem State.raises_sampleExpiry : s.Raises may s.sampleExpiry := by
  simp only [State.sampleExpiry]
  split
  · exact .refl s
  · split
    · exact (State.raises_missSample _ hs).congr_left rfl
    · exact (State.raises_missSample _ hs).congr_left rfl
    · exact .of_eq rfl

theorem State.raises_setupEnds (good : Bool) : s.Raises may (s.setupEnds good) := by
  unfold State.setupEnds
  split
  · exact .refl s
  · split
    · exact .of_eq rfl
    · exact s.raises_transferFailed hs

theorem State.raises_leaveBlind : s.Raises may s.leaveBlind := by
  unfold State.leaveBlind
  split
  · exact .congr_right (.raise (.refl s) hs) (State.ledger_guardEnters (s.raise .sensor) _)
  · exact .refl s

end

theorem State.raises_settleExpiry (s : State) (hs : may .settled) : s.Raises may s.settleExpiry := by
  unfold State.settleExpiry
  split
  · exact .congr_right (.raise (.of_eq rfl) hs) (State.ledger_guardEnters
      ((s.onGuard fun g => { g.closeEpisode with settle := none, run := 0 }).raise .settled) _)
  · exact .refl s

theorem State.ledger_joltMarking (s : State) : s.joltMarking.ledger = s.ledger :=
  State.ledger_congr (by simp) (by simp) (by simp)

theorem State.raises_knock (s : State) (hk : may .knock) (m2 : Nat) : s.Raises may (s.knock m2) := by
  rw [State.knock_eq]
  exact .raise (.of_eq ((State.ledger_onGuard _ _).trans s.ledger_joltMarking)) hk

theorem State.raises_lowSample (s : State) (hf : may .fall) (m2 : Nat) (next : GuardState) :
    s.Raises may (s.lowSample m2 next) := by
  unfold State.lowSample
  split
  · rw [State.enterFalling_eq]
    refine .raise (.of_eq ?_) hf
    rw [State.ledger_onGuard, State.ledger_onSeq, State.ledger_joltMarking]
  · exact .of_eq (State.ledger_guardEnters (s.setRun (s.guard.run + 1)) next)

section
variable (s : State) (hf : may .fall) (hk : may .knock)
include hf hk

theorem State.raises_sampleInCalm (m2 : Nat) (c : SampleClass) : s.Raises may (s.sampleInCalm m2 c) := by
  cases c
  case low => exact (State.raises_lowSample (s.setRun 0) hf m2 .watch).congr_left rfl
  case normal => exact .refl s
  case impact => exact s.raises_knock hk m2

theorem State.raises_sampleInWatch (m2 : Nat) (c : SampleClass) : s.Raises may (s.sampleInWatch m2 c) := by
  cases c
  case low => exact s.raises_lowSample hf m2 .watch
  case normal => exact .of_eq (State.ledger_guardEnters (s.setRun 0) .calm)
  case impact => exact s.raises_knock hk m2

omit hf hk in
theorem State.ledger_sampleInFalling (s : State) (c : SampleClass) : (s.sampleInFalling c).ledger = s.ledger := by
  have hlanded : s.landed.ledger = s.ledger := State.ledger_guardEnters (s.onGuard Guard.land) .settle
  cases c
  case low => rfl
  case normal =>
    simp only [State.sampleInFalling]
    split
    · exact hlanded
    · rfl
  case impact => exact hlanded

omit hk in
theorem State.raises_sampleInSettle (m2 : Nat) (c : SampleClass) : s.Raises may (s.sampleInSettle m2 c) := by
  cases c
  case low => exact s.raises_lowSample hf m2 .settle
  case normal => exact .of_eq rfl
  case impact => exact .of_eq rfl

theorem State.raises_takeSample (hs : may .sensor) (m2 : Nat) (c : SampleClass) :
    s.Raises may (s.takeSample m2 c) := by
  refine (s.raises_leaveBlind hs).trans ?_
  simp only [State.takeSample]
  split
  · exact State.raises_sampleInCalm _ hf hk m2 c
  · exact State.raises_sampleInWatch _ hf hk m2 c
  · exact .of_eq (State.ledger_sampleInFalling _ c)
  · exact State.raises_sampleInSettle _ hf m2 c
  · exact .refl _

theorem State.raises_readEnds (hs : may .sensor) (sample : Option Sample) :
    s.Raises may (s.readEnds sample) := by
  unfold State.readEnds
  split
  · exact .refl s
  · split
    · exact s.raises_transferFailed hs
    next smp => exact (State.raises_takeSample (s.onGuard (Guard.goodRead smp)) hf hk hs smp.m2 smp.cls).congr_left rfl

end

/-! ## The requests -/

theorem State.Raises.onSurvey {n : Nat} {act : Fin 64 → Served} (h : ∀ i, s.Raises may (act i).1) :
    s.Raises may (s.onSurvey n act).1 := by
  unfold State.onSurvey
  split
  · exact .refl s
  · split
    · exact .refl s
    next i _ => exact h i

section
variable (s : State) (p : List Byte)

theorem raises_serveReadStatus : s.Raises may (serveReadStatus p s).1 := by
  unfold serveReadStatus; split <;> exact .of_eq rfl
theorem raises_serveAddWindow : s.Raises may (serveAddWindow p s).1 := by
  unfold serveAddWindow
  split
  · exact .refl s
  · split
    · exact .refl s
    · refine .onSurvey fun i => ?_
      split <;> exact .of_eq rfl
theorem raises_serveDropWindow : s.Raises may (serveDropWindow p s).1 := by
  unfold serveDropWindow
  split
  · exact .refl s
  · refine .onSurvey fun i => ?_
    split <;> exact .of_eq rfl
theorem raises_serveRename : s.Raises may (serveRename p s).1 := by
  unfold serveRename
  split
  · exact .refl s
  · split
    · exact .refl s
    · exact .onSurvey fun i => .of_eq rfl
theorem raises_serveSetHold : s.Raises may (serveSetHold p s).1 := by
  unfold serveSetHold
  split
  · exact .refl s
  · exact .onSurvey fun i => .of_eq rfl
theorem raises_serveRestore : s.Raises may (serveRestore p s).1 := by
  unfold serveRestore; (repeat' split) <;> exact .of_eq rfl
theorem raises_serveReopen : s.Raises may (serveReopen p s).1 := by
  unfold serveReopen
  split
  · exact .refl s
  · refine .onSurvey fun i => ?_
    unfold State.reopenAt
    split <;> exact .of_eq rfl
theorem raises_grantOrHold (slot : Option (Fin 64)) (window first count : Nat) :
    s.Raises may (s.grantOrHold slot window first count).1 := by
  unfold State.grantOrHold
  split
  · exact .refl s
  · exact .refl s
  · cases slot <;> exact .of_eq rfl
theorem raises_serveCheckWrite : s.Raises may (serveCheckWrite p s).1 := by
  rcases serveCheckWrite_cases p s with h | ⟨slot, window, first, count, h⟩ <;> rw [h]
  · exact .refl s
  · exact raises_grantOrHold s slot window first count
theorem raises_serveSetTarget : s.Raises may (serveSetTarget p s).1 := by
  unfold serveSetTarget
  split
  · exact .refl s
  · exact .of_eq (s.ledger_setTarget _)

/-! A change of n_open, of the charge or of the reserve's terms is judged, and may raise BATTERY (R166). -/

variable (hb : may .battery)
include hb

theorem raises_serveSetCharge : s.Raises may (serveSetCharge p s).1 := by
  unfold serveSetCharge
  split
  · exact .refl s
  · exact (State.raises_evaluate _ hb _ _).congr_left rfl
theorem raises_serveOpenSurvey : s.Raises may (serveOpenSurvey p s).1 := by
  rcases serveOpenSurvey_cases p s with h | ⟨i, n, w, label, h⟩ <;> rw [h]
  · exact .refl s
  · exact (State.raises_openChanged (s.setEntry i (Entry.openedAs n w label s.clock.driveClock)) hb).congr_left rfl

theorem raises_sealAt (i : Fin 64) (n : Nat) : s.Raises may (s.sealAt i n).1 := by
  unfold State.sealAt
  split
  next ho =>
    split
    · exact .of_eq rfl
    · exact s.raises_sealEntry hb i fun hc => by cases ho.symm.trans hc
  all_goals exact .refl s
theorem raises_serveSeal : s.Raises may (serveSeal p s).1 := by
  unfold serveSeal
  split
  · exact .refl s
  · exact .onSurvey fun i => raises_sealAt s hb i _

theorem raises_verifiedAt (hs : may .sealed) (i : Fin 64) (n : Nat) : s.Raises may (s.verifiedAt i n).1 := by
  unfold State.verifiedAt
  split
  · split <;> exact .of_eq rfl
  · split
    · exact .refl s
    · exact (State.raises_sealEntry (s.modifyEntry i Entry.unmark) hb i fun _ => hs).congr_left rfl
  all_goals exact .refl s
theorem raises_serveVerified (hs : may .sealed) : s.Raises may (serveVerified p s).1 := by
  unfold serveVerified
  split
  · exact .refl s
  · exact .onSurvey fun i => raises_verifiedAt s hb hs i _

theorem raises_retireAt (i : Fin 64) (n : Nat) : s.Raises may (s.retireAt i n).1 := by
  have hopen : s.Raises may (if s.named i = true then
      (s.modifyEntry i (Entry.withState .retiring)).openChanged.servedState i n
      else ((s.clearEntry i).openChanged, freedAnswer i n)).1 := by
    split
    · exact (State.raises_openChanged (s.modifyEntry i (Entry.withState .retiring)) hb).congr_left rfl
    · exact (State.raises_openChanged (s.clearEntry i) hb).congr_left rfl
  unfold State.retireAt
  split
  · exact .refl s
  · split
    · exact .of_eq rfl
    · exact hopen
    · exact hopen
    all_goals exact .refl s
theorem raises_serveRetire : s.Raises may (serveRetire p s).1 := by
  unfold serveRetire
  split
  · exact .refl s
  · exact .onSurvey fun i => raises_retireAt s hb i _

theorem raises_serveWriteDone (hf : may .freed) (hs : may .sealed) : s.Raises may (serveWriteDone p s).1 := by
  rcases serveWriteDone_cases p s with h | ⟨k, g, result, h⟩ <;> rw [h]
  · exact .refl s
  · exact s.raises_removeGrant hf k g _ (.inr ⟨hb, hs⟩)

theorem raises_setParam (hm : may .mechanism) (q : Param) (v : Nat) : s.Raises may (s.setParam q v) := by
  cases q
  case capacity | rPark | rEntry | hyst => exact (State.raises_evaluate _ hb _ _).congr_left rfl
  case blindPolicy => exact .of_eq (State.ledger_powerUpCheck _)
  case cycleDelay => exact s.raises_setCycleDelay hm v
  all_goals exact .of_eq rfl
theorem raises_serveSetParam (hm : may .mechanism) : s.Raises may (serveSetParam p s).1 := by
  rcases serveSetParam_cases p s with h | ⟨q, v, h⟩ <;> rw [h]
  · exact .refl s
  · exact raises_setParam s hb hm q v

end

/-! ## What a command may do -/

/-- The commands that remove causes from the pending set (R158, R185, R189). -/
def Instr.removesCauses : Instr → Bool
  | .clearAttention _ | .restart _ | .enterRetain | .coldStart _ _ | .warmStart _ _ => true
  | _ => false

/-- The causes, LOST and the two counts move by the rules that name the command. -/
structure State.MovesByRule (c : Instr) (s t : State) : Prop where
  kept : Instr.removesCauses c = false → ∀ cause, s.isPending cause = true → t.isPending cause = true
  raised : ∀ cause : Cause, t.isPending cause = true → s.isPending cause = true ∨ cause.raisedBy c = true
  lostKept : (∀ p, c ≠ .clearAttention p) → s.supply.lost = true → t.supply.lost = true
  lostSet : (∀ a b, c ≠ .coldStart a b) → t.supply.lost = true → s.supply.lost = true
  clock : c ≠ .secondStep → (∀ p, c ≠ .setClock p) → (∀ a b, c ≠ .coldStart a b) → t.clock = s.clock
  seconds : c ≠ .secondStep → (∀ a b, c ≠ .coldStart a b) → t.clock.runSeconds = s.clock.runSeconds
  rises : (∀ a b, c ≠ .coldStart a b) → s.clock.runSeconds ≤ t.clock.runSeconds

/-- A command that raises the causes of its rules and leaves the rest. -/
theorem State.Raises.movesByRule (h : s.Raises (fun cause => cause.raisedBy c = true) t) : s.MovesByRule c t where
  kept _ := h.kept
  raised := h.raised
  lostKept _ hl := h.lost.trans hl
  lostSet _ hl := h.lost.symm.trans hl
  clock _ _ _ := h.clock
  seconds _ _ := by rw [h.clock]
  rises _ := by rw [h.clock]

/-- The rules read the ledger. -/
theorem State.MovesByRule.congr {s' t' : State} (h : s.MovesByRule c t) (hs : s.ledger = s'.ledger)
    (ht : t'.ledger = t.ledger) : s'.MovesByRule c t' := by
  simp only [State.ledger, Prod.mk.injEq] at hs ht
  obtain ⟨hsclock, hslost, hspending⟩ := hs
  obtain ⟨htclock, htlost, htpending⟩ := ht
  have hsame (cause : Cause) : s'.isPending cause = s.isPending cause := by
    rw [State.isPending, ← hspending, State.isPending]
  have htsame (cause : Cause) : t'.isPending cause = t.isPending cause := by
    rw [State.isPending, htpending, State.isPending]
  constructor
  · simpa only [hsame, htsame] using h.kept
  · simpa only [hsame, htsame] using h.raised
  · simpa only [← hslost, htlost] using h.lostKept
  · simpa only [← hslost, htlost] using h.lostSet
  · simpa only [← hsclock, htclock] using h.clock
  · simpa only [← hsclock, htclock] using h.seconds
  · simpa only [← hsclock, htclock] using h.rises

theorem State.MovesByRule.of_eq (h : t.ledger = s.ledger) : s.MovesByRule c t := (State.Raises.of_eq h).movesByRule

theorem State.MovesByRule.request {serve : List Byte → State → Served}
    (h : ∀ p (b : State), b.MovesByRule c (serve p b).1) (code : Byte) (payload : List Byte) :
    s.MovesByRule c (s.request c code payload serve) := by
  rcases offLink_ledger.request_cases s c code payload serve with hsame | ⟨p, b, hb, hserve⟩
  · exact .of_eq hsame
  · exact (h p b).congr hb hserve

theorem State.MovesByRule.event {f : State → State} (h : s.Raises (fun cause => cause.raisedBy c = true) (f s)) :
    s.MovesByRule c (s.event f) := by
  rcases offLink_ledger.event_cases s f with hsame | heffect
  · exact .of_eq hsame
  · exact h.movesByRule.congr rfl heffect

theorem State.Raises.phaseExpiry {f : State → State} (h : s.Raises may (f s)) (state : SeqState) :
    s.Raises may (s.phaseExpiry state f) := by
  unfold State.phaseExpiry
  split
  · exact h
  · exact .refl s

/-! ## The commands with rules of their own -/

/-- R185: the named causes leave, and LOST where it is named. -/
theorem movesByRule_serveClearAttention (p q : List Byte) (s : State) :
    s.MovesByRule (.clearAttention q) (serveClearAttention p s).1 := by
  have hcleared (v : Nat) : s.MovesByRule (.clearAttention q) (s.clearAttention v) := by
    refine ⟨nofun, fun cause h => .inl ?_, fun h => absurd rfl (h q), fun _ h => ?_, fun _ _ _ => rfl, fun _ _ => rfl,
      fun _ => le_rfl⟩
    · rw [State.isPending_iff] at h ⊢
      intro hnone
      refine h ?_
      change s.attention.pending &&& ~~~(BitVec.ofNat 11 v) &&& cause.bit = 0
      rw [BitVec.and_assoc, BitVec.and_comm (~~~_), ← BitVec.and_assoc, hnone]
      simp
    · exact (Bool.and_eq_true _ _ ▸ h).1
  unfold serveClearAttention
  split
  · exact .of_eq rfl
  · split
    · exact .of_eq rfl
    · exact hcleared _

/-- R189: a RESTART empties the pending set and raises its causes. -/
theorem movesByRule_serveRestart (p q : List Byte) (s : State) :
    s.MovesByRule (.restart q) (serveRestart p s).1 := by
  have hlost : s.restart.supply.lost = s.supply.lost := by rw [State.restart_supply]
  unfold serveRestart
  split
  · exact .of_eq rfl
  · refine ⟨nofun, fun cause h => .inr ?_, fun _ => hlost.trans, fun _ => hlost.symm.trans, fun _ _ _ => s.restart_clock,
      fun _ _ => by rw [State.restart_clock], fun _ => by rw [State.restart_clock]⟩
    rcases (s.restart_isPending cause).mp h with rfl | ⟨rfl, -⟩ | ⟨rfl, -⟩ <;> rfl

theorem movesByRule_warmStart (s : State) (sprs adsel : Bool) :
    s.MovesByRule (.warmStart sprs adsel) (s.warmStart sprs adsel) := by
  have hlost : (s.warmStart sprs adsel).supply.lost = s.supply.lost := by rw [State.warmStart_supply]
  refine ⟨nofun, fun cause h => .inr ?_, fun _ => hlost.trans, fun _ => hlost.symm.trans,
    fun _ _ _ => s.warmStart_clock sprs adsel, fun _ _ => by rw [State.warmStart_clock],
    fun _ => by rw [State.warmStart_clock]⟩
  rcases (s.warmStart_isPending sprs adsel cause).mp h with rfl | ⟨rfl, -⟩ | ⟨rfl, -⟩ | ⟨rfl, -⟩ | ⟨rfl, -⟩ <;> rfl

theorem movesByRule_coldStart (s : State) (sprs adsel : Bool) :
    s.MovesByRule (.coldStart sprs adsel) (s.coldStart sprs adsel) := by
  rw [State.coldStart_eq]
  refine ⟨nofun, fun cause h => .inr ?_, fun _ _ => rfl, fun h => absurd rfl (h sprs adsel),
    fun _ _ h => absurd rfl (h sprs adsel), fun _ h => absurd rfl (h sprs adsel), fun h => absurd rfl (h sprs adsel)⟩
  obtain rfl := (State.isPending_cold ..).mp h
  rfl

theorem movesByRule_enterRetain (s : State) : s.MovesByRule .enterRetain s.enterRetain where
  kept := nofun
  raised cause h := absurd (h.symm.trans (State.isPending_of_none rfl cause)) nofun
  lostKept _ := id
  lostSet _ := id
  clock _ _ _ := rfl
  seconds _ _ := rfl
  rises _ := le_rfl

/-- R170: the run seconds rise by one, or stand at their top. -/
theorem movesByRule_secondStep (s : State) : s.MovesByRule .secondStep (s.onClock Clock.secondStep) where
  kept _ _ := id
  raised _ := .inl
  lostKept _ := id
  lostSet _ := id
  clock h := absurd rfl h
  seconds h := absurd rfl h
  rises _ := by
    rw [State.onClock_clock, Clock.secondStep]
    dsimp only
    split <;> omega

/-- R172: SET-CLOCK leaves the run seconds. -/
theorem movesByRule_serveSetClock (p q : List Byte) (s : State) :
    s.MovesByRule (.setClock q) (serveSetClock p s).1 := by
  unfold serveSetClock
  split
  · exact .of_eq rfl
  · exact ⟨fun _ _ => id, fun _ => .inl, fun _ => id, fun _ => id, fun _ h => absurd rfl (h q), fun _ _ => rfl,
      fun _ => le_rfl⟩

/-! ## Every command -/

/-- The causes, LOST and the two counts move by the rules of the command. -/
theorem exec_movesByRule (c : Instr) (h : exec c s = .next t) : s.MovesByRule c t := by
  have served {c : Instr} {serve : List Byte → State → Served}
      (hf : ∀ (b : State) p, b.Raises (fun cause => cause.raisedBy c = true) (serve p b).1) (code : Byte)
      (p : List Byte) : s.MovesByRule c (s.request c code p serve) :=
    .request (fun p b => (hf b p).movesByRule) code p
  have reported {c : Instr} {serve : List Byte → State → Served} (hf : ∀ (b : State) p, (serve p b).1 = b)
      (code : Byte) (p : List Byte) : s.MovesByRule c (s.request c code p serve) :=
    served (fun b p => by rw [hf b p]; exact .refl b) code p
  have phase {c : Instr} {f : State → State} (hf : s.Raises (fun cause => cause.raisedBy c = true) (f s))
      (state : SeqState) : s.MovesByRule c (s.event (State.phaseExpiry state f)) :=
    .event (hf.phaseExpiry state)
  cases c <;> cases h
  case readStatus => exact served raises_serveReadStatus _ _
  case clearAttention q => exact .request (fun p b => movesByRule_serveClearAttention p q b) _ _
  case restart q => exact .request (fun p b => movesByRule_serveRestart p q b) _ _
  case setClock q => exact .request (fun p b => movesByRule_serveSetClock p q b) _ _
  case setParam => exact served (fun b p => raises_serveSetParam b p rfl rfl) _ _
  case openSurvey => exact served (fun b p => raises_serveOpenSurvey b p rfl) _ _
  case addWindow => exact served raises_serveAddWindow _ _
  case dropWindow => exact served raises_serveDropWindow _ _
  case rename => exact served raises_serveRename _ _
  case verified => exact served (fun b p => raises_serveVerified b p rfl rfl) _ _
  case reopen => exact served raises_serveReopen _ _
  case setHold => exact served raises_serveSetHold _ _
  case retire => exact served (fun b p => raises_serveRetire b p rfl) _ _
  case restore => exact served raises_serveRestore _ _
  case checkWrite => exact served raises_serveCheckWrite _ _
  case writeDone => exact served (fun b p => raises_serveWriteDone b p rfl rfl rfl) _ _
  case setTarget => exact served raises_serveSetTarget _ _
  case setCharge => exact served (fun b p => raises_serveSetCharge b p rfl) _ _
  case readParam => exact reported (fun b p => serveReadParam_state b p) _ _
  case readClock => exact reported (fun b p => serveReadClock_state b p) _ _
  case findSurvey => exact reported (fun b p => serveFindSurvey_state b p) _ _
  case findBlock => exact reported (fun b p => serveFindBlock_state b p) _ _
  case readEntry => exact reported (fun b p => serveReadEntry_state b p) _ _
  case nextEntry => exact reported (fun b p => serveNextEntry_state b p) _ _
  case readGrants => exact reported (fun b p => serveReadGrants_state b p) _ _
  case readGuard => exact reported (fun b p => serveReadGuard_state b p) _ _
  case readMechanism => exact reported (fun b p => serveReadMechanism_state b p) _ _
  case readGauge => exact reported (fun b p => serveReadGauge_state b p) _ _
  -- SEAL, whose name is a keyword of Lean, is the first command left
  next => exact served (fun b p => raises_serveSeal b p rfl) _ _
  case malformed | unknown => exact .of_eq (offLink_ledger.refusedWrite s _ _ _ _)
  case emptyWrite | answerRead => exact .of_eq (offLink_ledger.transfer (fun b => offLink_ledger.onLink b _) s _ _ _ _)
  case addressMatch address dir =>
    split
    · exact .of_eq rfl
    · exact .of_eq (offLink_ledger.onBus (offLink_ledger.addressByte s address dir) _)
  case wakingTransferEnd => exact .of_eq (offLink_ledger.onBus (offLink_ledger.wakingEnds s) _)
  case answerFormed => exact .of_eq (offLink_ledger.event (offLink_ledger.answerFormed s))
  case linkClear => exact .of_eq (offLink_ledger.event (s := s.setLclr false) rfl)
  case linkClearRelease => exact .of_eq rfl
  case sampleTimerExpiry => exact .event (s.raises_sampleExpiry rfl)
  case setupComplete => exact .event (s.raises_setupEnds (by rfl) _)
  case readComplete => exact .event (s.raises_readEnds (by rfl) (by rfl) (by rfl) _)
  case settleTimerExpiry => exact .event (s.raises_settleExpiry rfl)
  case grantDeadlineExpiry slot => exact .event (s.raises_expireGrant (by rfl) (by rfl) slot)
  case supplySettleExpiry => exact phase (s.raises_supplySettles rfl) _
  case spinTimeoutExpiry => exact phase (s.raises_spinTimesOut rfl) _
  case unloadTimeExpiry => exact phase (f := State.unloads) (.of_eq rfl) _
  case spinDownExpiry => exact phase (s.raises_enterCycleWait rfl) _
  case cycleDelayExpiry => exact phase (s.raises_offReached rfl) _
  case drdyAsserted =>
    exact State.MovesByRule.congr (s := s.setDrdy true) (.event (State.raises_drdyRises _ rfl)) rfl rfl
  case drdyReleased =>
    exact State.MovesByRule.congr (s := s.setDrdy false) (.event (State.raises_drdyFalls _ rfl)) rfl rfl
  case periodEnd code volts => exact .event (s.raises_periodEnds (by rfl) code volts)
  case sprsChange present => exact .event (s.raises_sprsChanges (by rfl) (by rfl) present)
  case dozeTimerExpiry =>
    refine .of_eq (offLink_ledger.event ?_)
    unfold State.dozeExpiry
    split <;> rfl
  case enterRetain =>
    split
    · exact .of_eq rfl
    · exact movesByRule_enterRetain s
  case retainedContentsLoss => split <;> exact .of_eq rfl
  case coldStart sprs adsel =>
    split
    · exact movesByRule_coldStart s sprs adsel
    · exact .of_eq rfl
  case warmStart sprs adsel =>
    split
    · exact movesByRule_warmStart s sprs adsel
    · exact .of_eq rfl
  case secondStep =>
    split
    · exact movesByRule_secondStep s
    · exact .of_eq rfl

theorem Instr.removesCauses_iff : Instr.removesCauses c = true ↔
    (∃ p, c = .clearAttention p) ∨ (∃ p, c = .restart p) ∨ c = .enterRetain ∨ (∃ a b, c = .coldStart a b) ∨
      ∃ a b, c = .warmStart a b := by
  cases c <;> simp [Instr.removesCauses]

/-- Settles O17: each command moves the causes, LOST and the counts by its rules (`exec_movesByRule`). -/
theorem causesAndCountsMoveByTheirRules : Obligations.CausesAndCountsMoveByTheirRules := by
  refine ⟨fun c s t h => ?_, fun c s t h => ?_⟩ <;>
    obtain ⟨hkept, hraised, hlost, hset, hclock, hseconds, hrises⟩ := exec_movesByRule c h
  · refine ⟨fun cause hs ht => ?_, fun cause hs ht => ?_, fun hs ht => ?_, fun hs ht => ?_⟩
    · rw [← Instr.removesCauses_iff, ← Bool.not_eq_false]
      intro hc
      exact absurd ((hkept hc cause hs).symm.trans ht) nofun
    · exact (hraised cause ht).resolve_left (by simp [hs])
    · by_contra hc
      exact absurd ((hlost (not_exists.mp hc) hs).symm.trans ht) nofun
    · by_contra hc
      simp only [not_exists] at hc
      exact absurd ((hset hc ht).symm.trans hs) nofun
  · refine ⟨fun hmoved => ?_, fun hfall => ?_, fun hmoved => ?_⟩ <;> by_contra hc <;>
      simp only [not_or, not_exists] at hc
    · obtain ⟨hstep, hset, hcold⟩ := hc
      exact hmoved (hclock hstep hset hcold)
    · exact absurd (hrises hc) (Nat.not_le.mpr hfall)
    · obtain ⟨hstep, hcold⟩ := hc
      exact hmoved (hseconds hstep hcold)

end Sys2Proof.Machine

/-! The two starts at VMAIN's return: what of a state in RETAIN a warm start reads (`State.stored`). -/

namespace Sys2Proof.Machine

variable {s t r : State}

/-! ## What RETAIN keeps (R158) -/

/-- A state in RETAIN with everything that RETAIN does not keep given its value of the warm start, and no link record. -/
def State.stored (s : State) : State :=
  { s with
    guard := s.guard.restart (some s.guard.samplePeriod), seq := s.seq.warm, gauge := s.gauge.warm,
    attention := s.attention.start, link := State.reset.link }

theorem State.settledStart_stored (s : State) :
    s.stored.settledStart = { s.settledStart with
      guard := s.stored.guard, seq := s.stored.seq, gauge := s.stored.gauge, link := s.stored.link } := by
  have hretiring : (s.stored.onAttention Attention.start).anyRetiring = (s.onAttention Attention.start).anyRetiring := rfl
  unfold State.settledStart State.startSettling
  rw [hretiring]
  split <;> rfl

/-- The blocks of a warm start up to the Supply Monitor's part. -/
def State.settledBlocks (adsel : Bool) (s : State) : State :=
  (((s.settledStart.onGrants GrantTable.emptied).onGuard fun g => g.restart (some g.samplePeriod)).onGauge
    Gauge.warm).onLink (Link.start adsel)

theorem State.settledBlocks_stored (s : State) (adsel : Bool) :
    s.stored.settledBlocks adsel =
      { s.settledBlocks adsel with seq := s.seq.warm, link := State.reset.link.start adsel } := by
  simp only [State.settledBlocks, State.settledStart_stored, State.onGrants, State.onGuard, State.onGauge, State.onLink,
    State.settledStart_guard, State.settledStart_gauge]
  rfl

theorem State.supplyWarm_stored (u : State) (sprs : Bool) (q : Sequencer) (l : Link) :
    State.supplyWarm sprs { u with seq := q, link := l } = { u.supplyWarm sprs with seq := q, link := l } := by
  unfold State.supplyWarm
  dsimp only
  split <;> rfl

theorem State.sequencerWarm_stored (u : State) (l : Link) :
    State.sequencerWarm { u with seq := u.seq.warm, link := l } = { u.sequencerWarm with link := l } := by
  simp only [State.sequencerWarm_eq]
  by_cases h : u.seq.cycleDelay = 0
  · simp only [Sequencer.warm, if_pos h]
    rfl
  · simp only [Sequencer.warm, if_neg h]
    rfl

theorem State.warmBegun_stored (s : State) (sprs adsel : Bool) :
    s.stored.warmBegun sprs adsel = { s.warmBegun sprs adsel with link := State.reset.link.start adsel } := by
  have hseq : s.seq.warm = ((s.settledBlocks adsel).supplyWarm sprs).seq.warm := by simp [State.settledBlocks]
  change ((s.stored.settledBlocks adsel).supplyWarm sprs).sequencerWarm = _
  rw [State.settledBlocks_stored, State.supplyWarm_stored, hseq]
  exact State.sequencerWarm_stored _ _

/-- A warm start does the same to every block from the stored part of the state. -/
theorem State.warmStart_stored (s : State) (sprs adsel : Bool) :
    s.stored.warmStart sprs adsel = { s.warmStart sprs adsel with link := State.reset.link.start adsel } := by
  rw [State.warmStart_eq, State.warmStart_eq, State.warmBegun_stored]
  rfl

theorem BlindPolicy.code_injective : Function.Injective BlindPolicy.code := by
  intro b c
  cases b <;> cases c <;> simp [BlindPolicy.code]

/-- Two states in RETAIN that agree on the retained items have the same stored part. -/
theorem State.stored_congr (htable : s.table = r.table) (hgrants : s.grants = r.grants) (hclock : s.clock = r.clock)
    (hparams : s.parameterTable = r.parameterTable) (hsupply : s.supply = r.supply) (hpins : s.pins = r.pins)
    (hpending : s.pending = r.pending) (hfree : s.freeCount = r.freeCount) (hfalls : s.guard.falls = r.guard.falls)
    (hknocks : s.guard.knocks = r.guard.knocks) (hepisode : s.guard.episode = r.guard.episode)
    (hms : s.guard.fallMs = r.guard.fallMs) (hfault : s.seq.fault = r.seq.fault)
    (hstop : s.seq.stopCause = r.seq.stopCause) (hq : s.gauge.q = r.gauge.q) (hs : s.gauge.s = r.gauge.s)
    (hp : s.gauge.p = r.gauge.p) (hestimate : s.gauge.estimatePending = r.gauge.estimatePending) :
    s.stored = r.stored := by
  simp only [State.parameterTable, List.cons.injEq, Prod.mk.injEq, true_and, BlindPolicy.code_injective.eq_iff] at hparams
  simp_all [State.stored, Guard.restart, Sequencer.warm, Gauge.warm, Attention.start]

/-- Settles O51: a warm start reads the stored part alone (`State.warmStart_stored`), and the retained items fix that
part (`State.stored_congr`). -/
theorem onlyTheStoreReachesTheStart : Obligations.OnlyTheStoreReachesTheStart := by
  refine ⟨fun s sprs adsel => ⟨fun h => congrArg Host.Outcome.next (if_neg ?_),
    fun h => congrArg Host.Outcome.next (if_neg ?_)⟩, ?_⟩
  · rintro ⟨hmode, hinvalid⟩
    exact h.elim (· hmode) fun hvalid => Bool.noConfusion (hvalid.symm.trans hinvalid)
  · rintro ⟨hmode, hvalid⟩
    exact h.elim (· hmode) fun hinvalid => Bool.noConfusion (hvalid.symm.trans hinvalid)
  · intro s r sprs adsel hmode hmode' htable hgrants hclock hparams hsupply hpins hpending hfree hfalls hknocks hepisode hms
      hfault hstop hq hs hp hestimate hvalid
    have hstored : s.stored = r.stored := State.stored_congr htable hgrants hclock hparams hsupply hpins hpending hfree
      hfalls hknocks hepisode hms hfault hstop hq hs hp hestimate
    refine ⟨s.warmStart sprs adsel, r.warmStart sprs adsel, congrArg Host.Outcome.next (if_pos ⟨hmode, hvalid⟩),
      congrArg Host.Outcome.next (if_pos ⟨hmode', hsupply ▸ hvalid⟩), ?_⟩
    calc (s.warmStart sprs adsel).blocks
        = (s.stored.warmStart sprs adsel).blocks := by rw [State.warmStart_stored]; rfl
      _ = (r.stored.warmStart sprs adsel).blocks := by rw [hstored]
      _ = (r.warmStart sprs adsel).blocks := by rw [State.warmStart_stored]; rfl

end Sys2Proof.Machine

/-! CLEAR-ATTENTION: a cause is a bit of the pending set (`State.isPending_eq_getLsbD`), and the highest pending level is the
one the answer reports (`State.highestLevel_eq`). -/

namespace Sys2Proof.Machine

variable {s : State}

/-! ## The pending set (R179) -/

theorem Cause.number_lt (c : Cause) : c.number < 11 := by cases c <;> decide

theorem Cause.bit_eq_twoPow (c : Cause) : c.bit = BitVec.twoPow 11 c.number := rfl

theorem State.isPending_eq_getLsbD (s : State) (c : Cause) : s.isPending c = s.attention.pending.getLsbD c.number := by
  have hbit : BitVec.twoPow 11 c.number ≠ 0 := by cases c <;> decide
  rw [State.isPending, Cause.bit_eq_twoPow, BitVec.and_twoPow]
  cases s.attention.pending.getLsbD c.number
  · rfl
  · exact bne_iff_ne.mpr hbit

theorem Cause.mem_all (c : Cause) : c ∈ Cause.all := by cases c <;> decide

/-- The level that R179 calls the highest is the one the answers report. -/
theorem State.highestLevel_eq {level : Nat} (h : s.highest level) : highestLevel s.attention.pending = level := by
  obtain ⟨hmax, hmem⟩ := h
  have hlevels : (0 :: (Cause.all.filter fun c => s.isPending c).map Cause.level).max? = some level := by
    rw [List.max?_eq_some_iff]
    simp only [List.mem_cons, List.mem_map, List.mem_filter, Cause.mem_all, true_and]
    constructor
    · rcases hmem with hmem | ⟨hzero, -⟩
      · exact .inr hmem
      · exact .inl hzero
    · rintro n (rfl | ⟨c, hc, rfl⟩)
      · exact Nat.zero_le _
      · exact hmax c hc
  rw [List.max?_cons'] at hlevels
  exact Option.some.inj hlevels

/-! ## CLEAR-ATTENTION (R185) -/

theorem State.isPending_clearAttention (s : State) (v : Nat) (c : Cause) :
    (s.clearAttention v).isPending c = (s.isPending c && !v.testBit c.number) := by
  have hpending : (s.clearAttention v).attention.pending = s.attention.pending &&& ~~~(BitVec.ofNat 11 v) := rfl
  rw [State.isPending_eq_getLsbD, State.isPending_eq_getLsbD, hpending]
  rw [BitVec.getLsbD_and, BitVec.getLsbD_not, BitVec.getLsbD_ofNat]
  simp only [c.number_lt, decide_true, Bool.true_and]

theorem causeSetRefused_nat2 (b1 b0 : Byte) : causeSetRefused (nat2 b1 b0) = decide (b1.toNat / 8 % 16 ≠ 0) := by
  have hbits : (b1.toNat * 256 + b0.toNat) / 2048 % 16 = b1.toNat / 8 % 16 := by omega
  rw [causeSetRefused, nat2, hbits]
  simp [bne, beq_eq_decide]

theorem nat2_lt_lost (b1 b0 : Byte) : nat2 b1 b0 < 32768 ↔ b1.toNat < 128 := by
  unfold nat2
  omega

theorem serveClearAttention_refused {b1 b0 : Byte} (h : b1.toNat / 8 % 16 ≠ 0) :
    serveClearAttention [b1, b0] s = s.unchanged (refusal .badArg) :=
  if_pos (by rw [causeSetRefused_nat2]; exact decide_eq_true h)

theorem serveClearAttention_taken {b1 b0 : Byte} (h : b1.toNat / 8 % 16 = 0) :
    serveClearAttention [b1, b0] s =
      (s.clearAttention (nat2 b1 b0), (s.clearAttention (nat2 b1 b0)).attentionAnswer) :=
  if_neg (by rw [causeSetRefused_nat2]; simpa using h)

theorem clearAttention_serves {u : State} {a : Answer} {p : List Byte} (hl : s.listens) (hp : p.length ≤ 80)
    (h : serveClearAttention p s = (u, a)) : Serves (.clearAttention p) s u a :=
  serves_of_serve rfl (unlinked_clearAttention p) (by decide) hl hp h

/-- Settles O15: the set as it stands after the clearing (`State.isPending_clearAttention`) and its highest level
(`State.highestLevel_eq`). -/
theorem clearAttentionRemovesTheNamed : Obligations.ClearAttentionRemovesTheNamed := by
  intro s b1 b0 hl
  refine ⟨fun h => clearAttention_serves hl (by simp) (serveClearAttention_refused h), fun h => ?_⟩
  obtain ⟨t, ht, hblocks, hlink, hdoze⟩ := clearAttention_serves hl (by simp) (serveClearAttention_taken (b0 := b0) h)
  obtain ⟨-, -, -, hattention⟩ := State.parts_of_blocks hblocks
  have hlost : t.supply.lost = (s.clearAttention (nat2 b1 b0)).supply.lost :=
    congrArg (fun u : State => u.supply.lost) (a₁ := t.blocks) (a₂ := (s.clearAttention (nat2 b1 b0)).blocks) hblocks
  refine ⟨t, ht, hblocks.trans ?_, hdoze, fun c => ?_, fun level hlevel => ?_⟩
  · rw [hattention, ← decide_eq_decide.mpr (nat2_lt_lost b1 b0)]
    rfl
  · rw [State.isPending_congr hattention, State.isPending_clearAttention]
  · rw [hlink, ← State.highestLevel_eq hlevel, hattention, hlost]
    rfl

end Sys2Proof.Machine

/-! The bridge's side of the Link Port: events that move the link alone (`State.event_onLink`), the address byte, the reads and
the empty writes, and the link clear. -/

namespace Sys2Proof.Machine

variable {s t : State} {f : State → State} {g : Link → Link} {c : Instr}

/-! ## Events of the link alone -/

/-- R155: the doze condition reads the state of the link and nothing else of it. -/
theorem State.dozeCondition_onLink (h : (g s.link).state = s.link.state) : (s.onLink g).dozeCondition = s.dozeCondition := by
  have hgrants : (s.onLink g).grantsEmpty = s.grantsEmpty := rfl
  simp only [State.dozeCondition, State.onLink_link, Link.isIdle, h, hgrants]
  rfl

theorem State.event_onLink (hm : s.supply.mode ≠ .retain) (hf : f s = s.onLink g) :
    s.dozeTimed (s.event f) ∧ (s.event f).blocks = s.blocks ∧ (s.event f).link = g s.link :=
  ⟨State.dozeTimed_event hm (by rw [hf]; rfl), (State.event_blocks hm).trans (by rw [hf]; rfl),
    (State.event_link hm).trans (by rw [hf]; rfl)⟩

/-- Where the doze condition stays, the doze timer does too. -/
theorem State.event_of_dozeCondition (hm : s.supply.mode ≠ .retain) (h : (f s).dozeCondition = s.dozeCondition) :
    s.event f = f s := by
  rw [State.event, if_neg hm, ← h, State.dozeFollows_self]

theorem State.event_onLink_of_state (hm : s.supply.mode ≠ .retain) (hf : f s = s.onLink g)
    (hg : (g s.link).state = s.link.state) : s.event f = s.onLink g :=
  (State.event_of_dozeCondition hm (by rw [hf, State.dozeCondition_onLink hg])).trans hf

/-! ## The stretched clock (R195) -/

theorem Link.stretched_iff (l : Link) : l.stretched = true ↔ l.state = .forming ∧ l.waiting ≠ none := by
  simp [Link.stretched, Option.isSome_iff_ne_none]

theorem State.onBus_of_free (h : s.pins.lclrN = true → s.link.state = .forming → s.link.waiting = none) :
    s.onBus c f = s.event f := by
  refine if_neg fun ⟨hstretched, hl⟩ => ?_
  obtain ⟨hforming, hwaiting⟩ := s.link.stretched_iff.mp hstretched
  exact hwaiting (h hl hforming)

/-- R195: a command of the bridge that comes while the clock is stretched waits, and moves nothing else. -/
theorem State.onBus_of_stretched (hm : s.supply.mode ≠ .retain) (hl : s.pins.lclrN = true) (hf : s.link.state = .forming)
    (hw : s.link.waiting ≠ none) : s.onBus c f = s.onLink (Link.defer c) :=
  (if_pos ⟨s.link.stretched_iff.mpr ⟨hf, hw⟩, hl⟩).trans (State.event_onLink_of_state hm rfl rfl)

/-! ## The address byte (R191) -/

/-- R191: what a start condition leaves of a transfer in progress. -/
theorem Link.endTransfer_eq (l : Link) : l.endTransfer = { l with
    state := if l.state = .forming then .forming else .idle, ignored := false,
    buffer := if l.state = .receiving then [] else l.buffer, count := if l.state = .receiving then 0 else l.count } := by
  rcases l with ⟨state⟩
  cases state <;> rfl

theorem State.addressByte_matched_run {dir : Dir} (hm : s.supply.mode = .run) (hl : s.pins.lclrN = true) :
    s.addressByte s.link.address dir = s.onLink fun l => l.endTransfer.acknowledge dir := by
  have hmatch : s.link.address = (s.onLink Link.endTransfer).link.address ∧ (s.onLink Link.endTransfer).pins.lclrN = true :=
    ⟨by rw [State.onLink_link, Link.endTransfer_eq], hl⟩
  have hrun : (s.onLink Link.endTransfer).supply.mode ≠ .doze := by simp [hm]
  exact (if_pos hmatch).trans (if_neg hrun)

theorem State.addressByte_matched_doze {dir : Dir} (hm : s.supply.mode = .doze) (hl : s.pins.lclrN = true) :
    s.addressByte s.link.address dir = (s.onLink Link.endTransfer).wake := by
  have hmatch : s.link.address = (s.onLink Link.endTransfer).link.address ∧ (s.onLink Link.endTransfer).pins.lclrN = true :=
    ⟨by rw [State.onLink_link, Link.endTransfer_eq], hl⟩
  exact (if_pos hmatch).trans (if_pos hm)

theorem State.addressByte_unmatched {address : BitVec 7} {dir : Dir}
    (h : address ≠ s.link.address ∨ s.pins.lclrN = false) : s.addressByte address dir =
      s.onLink fun l => { l.endTransfer with acked := false, ignored := decide (address = l.endTransfer.address) } := by
  refine if_neg fun ⟨haddress, hl⟩ => ?_
  rw [State.onLink_link, Link.endTransfer_eq] at haddress
  exact h.elim (· haddress) fun hlow => Bool.noConfusion (hlow.symm.trans hl)

/-- Settles O6: an address byte is an event of the link alone (`State.event_onLink`) but where it wakes the part. -/
theorem addressByteIsJudged : Obligations.AddressByteIsJudged := by
  intro s address dir
  have hexec (hm : s.supply.mode ≠ .retain) :
      exec (.addressMatch address dir) s = .next (s.onBus (.addressMatch address dir) (State.addressByte address dir)) :=
    congrArg Host.Outcome.next (if_neg hm)
  have hevent (hm : s.supply.mode ≠ .retain)
      (hfree : s.pins.lclrN = true → s.link.state = .forming → s.link.waiting = none) :
      exec (.addressMatch address dir) s = .next (s.event (State.addressByte address dir)) := by
    rw [hexec hm, State.onBus_of_free hfree]
  refine ⟨fun hm => congrArg Host.Outcome.next (if_pos hm), fun hm hl hf hw => ?_, ?_, ?_, ?_, ?_⟩
  · rw [hexec hm, State.onBus_of_stretched hm hl hf hw]
    rfl
  · rintro hm rfl hl hf
    have hretain : s.supply.mode ≠ .retain := by simp [hm]
    obtain ⟨hdoze, hblocks, hlink⟩ := State.event_onLink hretain (State.addressByte_matched_run (dir := dir) hm hl)
    refine ⟨_, hevent hretain fun _ h => absurd h hf, hdoze, hblocks, ?_⟩
    rw [hlink, Link.endTransfer_eq, if_neg hf]
    cases dir <;> simp [Link.acknowledge, Link.beginRead]
  · rintro hm rfl hl hf hw
    have hretain : s.supply.mode ≠ .retain := by simp [hm]
    obtain ⟨hdoze, hblocks, hlink⟩ := State.event_onLink hretain (State.addressByte_matched_run (dir := dir) hm hl)
    refine ⟨_, hevent hretain fun _ _ => hw, hdoze, hblocks, ?_⟩
    rw [hlink, Link.endTransfer_eq]
    simp [Link.acknowledge, Link.stretch, Link.stretched, hf, hw]
  · rintro hm rfl hl hi
    have hretain : s.supply.mode ≠ .retain := by simp [hm]
    have hcondition : (s.onLink Link.endTransfer).wake.dozeCondition = s.dozeCondition := by
      have hwaking : (s.onLink Link.endTransfer).wake.link.state ≠ .idle := nofun
      rw [State.dozeCondition_busy _ hwaking, State.dozeCondition_of_not_run (by simp [hm])]
    have hwake : s.event (State.addressByte s.link.address dir) = (s.onLink Link.endTransfer).wake := by
      have hbyte := State.addressByte_matched_doze (dir := dir) hm hl
      rw [State.event_of_dozeCondition hretain (by rw [hbyte, hcondition]), hbyte]
    refine ⟨_, hevent hretain fun _ h => absurd (hi.symm.trans h) nofun, ?_⟩
    rw [hwake]
    refine ⟨?_, ?_, rfl, rfl, rfl, rfl, rfl, rfl, rfl, rfl, rfl, rfl⟩
    · rw [State.dozeTimed, if_pos hcondition]
      rfl
    · simp [State.wake, Link.endTransfer_eq, hi]
  · intro hm h hfree
    obtain ⟨hdoze, hblocks, hlink⟩ := State.event_onLink hm (State.addressByte_unmatched (dir := dir) h)
    refine ⟨_, hevent hm hfree, hdoze, hblocks, ?_⟩
    rw [hlink, Link.endTransfer_eq]
    exact ⟨rfl, rfl, rfl, rfl, rfl⟩

/-! ## Reads and empty writes (R193, R196) -/

/-- R156: a doze condition that comes to hold starts the doze timer afresh. -/
theorem State.dozeTimer_dozeFollows_false (s : State) : (s.dozeFollows false).supply.dozeTimer =
    if (s.dozeFollows false).dozeCondition then some ((s.dozeFollows false).supply.dozeDelay * 1000)
    else s.supply.dozeTimer := by
  rw [State.dozeFollows_dozeCondition, State.supply_dozeFollows]
  cases s.dozeCondition <;> rfl

/-- A transfer the port hears that moves the link alone: it stops the doze timer, and at its end the timer starts afresh where
the doze condition holds (R156). -/
theorem State.transfer_onLink {dir : Dir} {lost start : Link → Link} (hl : s.listens) (hbusy : (start s.link).state ≠ .idle) :
    let t := s.transfer c dir lost start fun b => b.onLink g
    t.blocks = s.blocks ∧ t.link = g (start s.link) ∧
      t.supply.dozeTimer = if t.dozeCondition then some (t.supply.dozeDelay * 1000)
        else if s.dozeCondition then none else s.supply.dozeTimer := by
  obtain ⟨hrun, hlclr, hignored, hwaking, hforming⟩ := hl
  have hheard : s.link.ignores = false := s.link.ignores_eq_false_iff.mpr ⟨hignored, hwaking⟩
  have hstarted : ((s.onLink start).dozeFollows s.dozeCondition).dozeCondition = false := by
    rw [State.dozeFollows_dozeCondition, State.dozeCondition_busy _ hbusy]
  have hstopped : ((s.onLink start).dozeFollows s.dozeCondition).supply.dozeTimer =
      if s.dozeCondition then none else s.supply.dozeTimer := by
    rw [State.supply_dozeFollows, State.dozeCondition_busy _ hbusy]
    cases s.dozeCondition <;> rfl
  have htaken : s.transfer c dir lost start (fun b => b.onLink g) =
      (((s.onLink start).dozeFollows s.dozeCondition).onLink g).dozeFollows false := by
    simp [State.transfer, hrun, hheard, hlclr, hforming, hstarted]
  dsimp only
  rw [htaken]
  refine ⟨?_, ?_, ?_⟩
  · rw [State.dozeFollows_blocks]
    exact (s.onLink start).dozeFollows_blocks s.dozeCondition
  · rw [State.dozeFollows_link, State.onLink_link, State.dozeFollows_link, State.onLink_link]
  · rw [← hstopped]
    exact State.dozeTimer_dozeFollows_false _

/-- R196: a frame cut or filled up with 0xFF to `n` bytes. -/
theorem getElem?_take_append_fill (frame : List Byte) {n k : Nat} (hk : k < n) :
    (frame.take n ++ List.replicate (n - frame.length) 0xFF)[k]? = some (frame[k]?.getD 0xFF) := by
  by_cases h : k < frame.length
  · rw [List.getElem?_append_left (by simp; omega)]
    simp [hk, h]
  · rw [List.getElem?_append_right (by simp; omega), List.getElem?_replicate_of_lt (by simp; omega),
      List.getElem?_eq_none (by omega)]
    rfl

theorem sentBytes_length (answer : Option Answer) (n : Nat) : (sentBytes answer n).length = n := by
  unfold sentBytes
  simp
  omega

/-- Settles O7: both are transfers that move the link alone (`State.transfer_onLink`). -/
theorem readsSendTheAnswerEmptyWritesKeepIt : Obligations.ReadsSendTheAnswerEmptyWritesKeepIt := by
  refine ⟨fun s hl => ?_, fun s n hl => ?_⟩
  · obtain ⟨hblocks, hlink, hdoze⟩ := State.transfer_onLink (c := .emptyWrite) (dir := .write) (lost := Link.lostWrite)
      (start := Link.receive []) (g := Link.endEmpty) hl nofun
    refine ⟨_, rfl, hblocks, hdoze, ?_⟩
    rw [hlink]
    exact ⟨rfl, rfl, rfl, rfl, rfl, rfl, rfl, rfl, rfl⟩
  · obtain ⟨hblocks, hlink, hdoze⟩ := State.transfer_onLink (c := .answerRead n) (dir := .read) (lost := Link.lostRead n)
      (start := fun l => l.endTransfer.beginRead) (g := Link.endRead n) hl nofun
    refine ⟨_, rfl, hblocks, hdoze, ?_⟩
    have hanswer : s.link.endTransfer.beginRead.answer = s.link.answer := by rw [Link.endTransfer_eq]; rfl
    have hsent : (Link.endRead n s.link.endTransfer.beginRead).sent = sentBytes s.link.answer n :=
      congrArg (sentBytes · n) hanswer
    rw [hlink, hsent]
    refine ⟨rfl, hanswer, by rw [Link.endTransfer_eq]; rfl, by rw [Link.endTransfer_eq]; rfl, rfl, sentBytes_length _ n,
      fun a ha k hk => ?_, fun ha k hk => ?_⟩
    · rw [ha]
      exact getElem?_take_append_fill a.frame hk
    · rw [ha]
      exact getElem?_take_append_fill noRequestFrame hk

/-! ## The link clear and the end of the waking transfer (R198, R199) -/

theorem Link.inTransfer_eq (l : Link) : l.inTransfer = decide (l.state = .receiving ∨ l.state = .sending ∨ l.state = .waking ∨
    (l.state = .forming ∧ l.waiting ≠ none) ∨ (l.state = .idle ∧ l.ignored = true)) := by
  rcases l with ⟨state, _, _, _, _, _, waiting⟩
  cases state <;> cases waiting <;> simp [Link.inTransfer]

/-- R199: of the commands that waited behind the stretch, the link clear passes over the last after the others. -/
theorem Link.cut_append (l : Link) (cs : List Instr) (c : Instr) (h : l.held = cs ++ [c]) :
    l.cut = (Link.cut { l with held := cs }).passOver c := by
  simp only [Link.cut, h, List.foldl_append, List.foldl_cons, List.foldl_nil]
  rfl

theorem Link.cut_state (l : Link) : l.cut.state = .idle := by
  obtain ⟨_, _, _, hcut⟩ := l.cut_eq
  rw [hcut]
  rfl

theorem Link.cut_address (l : Link) : l.cut.address = l.address := by
  obtain ⟨_, _, _, hcut⟩ := l.cut_eq
  rw [hcut]
  rfl

/-- R199: a read that the link clear passes over is not acknowledged, and ends the transfer it interrupted. -/
theorem Link.passOver_answerRead (l : Link) (h : l.state = .idle) (n : Nat) : l.passOver (.answerRead n) = { l with
    ignored := false, acked := false, sent := if l.ignored then List.replicate n 0xFF else l.sent } := by
  unfold Link.passOver
  cases hi : l.ignored
  · simp
  · simp [Link.lostRead_eq, h]

/-- R199: so is a write. -/
theorem Link.passOver_of_write (l : Link) (h : l.state = .idle) (hc : endsTransfer c) (hwrite : ∀ n, c ≠ .answerRead n) :
    l.passOver c = { l with ignored := false, acked := false } := by
  unfold Link.passOver
  split
  next => simp [endsTransfer, requestOf] at hc
  next => simp [endsTransfer, requestOf] at hc
  next n => exact absurd rfl (hwrite n)
  next =>
    cases hi : l.ignored
    · simp
    · simp [Link.lostWrite_eq, h]

/-- R198, R199: the end of an ignored transfer outside WAKING clears the flag alone. -/
theorem State.wakingEnds_of_not_waking (h : s.link.state ≠ .waking) :
    s.wakingEnds = s.onLink fun l => { l with ignored := false } := by
  unfold State.wakingEnds
  split
  next => simp [State.onLink, Link.endIgnored, h]
  next hi =>
    obtain ⟨hnot, -⟩ := s.link.ignores_eq_false_iff.mp (by simpa using hi)
    simp [State.onLink, ← hnot]

/-- Settles O9: the link clear is `Link.cut` (`Link.cut_eq`, `Link.cut_append`), and the end of an ignored transfer is an event
of the link alone (`State.event_onLink`). -/
theorem linkClearAndWakingEndInIdle : Obligations.LinkClearAndWakingEndInIdle := by
  refine ⟨fun s => ⟨fun hm => ?_, rfl⟩, fun s hm => ⟨fun hw => ?_, fun hw hfree => ?_, fun hl hf hw => ?_⟩⟩
  · obtain ⟨hdoze, hblocks, hlink⟩ := State.event_onLink (s := s.setLclr false) (g := Link.cut) hm rfl
    have hport : (s.setLclr false).link = s.link := rfl
    rw [hport] at hlink
    refine ⟨_, rfl, hdoze, hblocks, ?_, fun hheld => ?_, fun cs c u hheld hu => ?_⟩
    · obtain ⟨acked, sent, ignored, hcut⟩ := s.link.cut_eq
      rw [hlink, hcut]
      rfl
    · rw [hlink, Link.cut_of_held_nil hheld]
      exact ⟨rfl, rfl, s.link.inTransfer_eq⟩
    · have hulink : u.link = Link.cut { s.link with held := cs } := by
        cases hu
        exact State.event_link hm
      rw [hlink, Link.cut_append _ _ _ hheld, ← hulink]
      refine ⟨fun hc => ?_, ?_, ?_⟩
      · have hidle : u.link.state = .idle := by rw [hulink, Link.cut_state]
        cases c
        case answerRead n => exact u.link.passOver_answerRead hidle n
        all_goals exact u.link.passOver_of_write hidle hc nofun
      · rintro address dir rfl
        simp [Link.passOver, hulink, Link.cut_address]
      · rintro rfl
        simp [Link.passOver, Link.endIgnored, hulink, Link.cut_state]
  · have hends : s.wakingEnds = s.onLink Link.endIgnored := if_pos (s.link.ignores_iff.mpr (.inr hw))
    obtain ⟨hdoze, hblocks, hlink⟩ := State.event_onLink hm hends
    refine ⟨_, congrArg Host.Outcome.next (State.onBus_of_free fun _ h => absurd (hw.symm.trans h) nofun), hblocks, hdoze, ?_⟩
    rw [hlink, Link.endIgnored, if_pos hw]
  · refine congrArg Host.Outcome.next ((State.onBus_of_free hfree).trans ?_)
    exact State.event_onLink_of_state hm (State.wakingEnds_of_not_waking hw) rfl
  · exact congrArg Host.Outcome.next (State.onBus_of_stretched hm hl hf hw)

end Sys2Proof.Machine

/-! The Time Base: the counts read, set and stepped, and the step itself, which takes the front command of the queue. -/

namespace Sys2Proof.Machine

variable {s : State}

/-! ## A step -/

theorem step_of_cons {c : Instr} {rest : List Instr} (h : s.pending = c :: rest) :
    step s = exec c { s with pending := rest } := by rw [step, h]

theorem step_of_nil (h : s.pending = []) : step s = .next s.tick := by rw [step, h]

/-- Settles O1, by what a step does with a waiting command (`step_of_cons`). -/
theorem stepTakesTheFrontCommand : Obligations.StepTakesTheFrontCommand :=
  fun c rest s => step_of_cons (s := { s with pending := c :: rest }) rfl

/-! ## The two counts (R170 to R174) -/

theorem be4_nat4 (b3 b2 b1 b0 : Byte) : be4 (nat4 b3 b2 b1 b0) = [b3, b2, b1, b0] := by
  have h2 := b2.isLt
  have h1 := b1.isLt
  have h0 := b0.isLt
  have e3 : nat4 b3 b2 b1 b0 / 16777216 = b3.toNat := by unfold nat4; omega
  have e2 : nat4 b3 b2 b1 b0 / 65536 = b3.toNat * 256 + b2.toNat := by unfold nat4; omega
  have e1 : nat4 b3 b2 b1 b0 / 256 = (b3.toNat * 256 + b2.toNat) * 256 + b1.toNat := by unfold nat4; omega
  simp only [be4, List.cons.injEq, and_true, e3, e2, e1]
  refine ⟨by simp, ?_, ?_, ?_⟩ <;> apply BitVec.eq_of_toNat_eq <;> rw [BitVec.toNat_ofNat]
  · omega
  · omega
  · unfold nat4; omega

/-- R170: the drive clock wraps at its top. -/
theorem Clock.secondStep_eq {c : Clock} (h : c.driveClock ≤ 4294967295) : c.secondStep =
    { runSeconds := if c.runSeconds < 4294967294 then c.runSeconds + 1 else c.runSeconds,
      driveClock := if c.driveClock = 4294967295 then 0 else c.driveClock + 1 } := by
  have hwrap : (c.driveClock + 1) % 4294967296 = if c.driveClock = 4294967295 then 0 else c.driveClock + 1 := by
    split <;> omega
  rw [Clock.secondStep, hwrap]

theorem Clock.report_setDrive (c : Clock) (b3 b2 b1 b0 : Byte) :
    (c.setDrive (nat4 b3 b2 b1 b0)).report = be4 c.runSeconds ++ [b3, b2, b1, b0] :=
  congrArg (be4 c.runSeconds ++ ·) (be4_nat4 b3 b2 b1 b0)

theorem exec_secondStep_of_stored (h : s.supply.storeValid = true) :
    exec .secondStep s = .next (s.onClock Clock.secondStep) := congrArg Host.Outcome.next (if_pos h)

theorem exec_secondStep_of_lost (h : s.supply.storeValid = false) : exec .secondStep s = .next s :=
  congrArg Host.Outcome.next (if_neg (Bool.not_eq_true _ ▸ h))

/-- Settles O10: the two requests by what their owning block decides (`serves_of_serve`), the second step by the store. -/
theorem clocksAreReadSetAndStepped : Obligations.ClocksAreReadSetAndStepped := by
  refine fun s => ⟨fun hl => ?_, fun b3 b2 b1 b0 hl => ?_, fun hv hd => ?_, exec_secondStep_of_lost⟩
  · exact serves_of_serve rfl (unlinked_readClock []) (by decide) hl (by simp) rfl
  · refine serves_of_serve rfl (unlinked_setClock [b3, b2, b1, b0]) (by decide) hl (by simp) ?_
    rw [← s.clock.report_setDrive]
    rfl
  · rw [exec_secondStep_of_stored hv, State.onClock, Clock.secondStep_eq hd]

end Sys2Proof.Machine

/-! The 1 ms tick: the events due at it, in the order the free values give (`State.due`), and what it moves of the blocks. -/

namespace Sys2Proof.Machine

variable {s : State} {c : Instr}

/-! ## The events due at a tick (R176, R195) -/

theorem timerDue_iff (t : Timer) : timerDue t = true ↔ ∃ n, t = some n ∧ n ≤ 1 := by
  cases t <;> simp [timerDue]

theorem mem_dueIf {b : Bool} {l : List Instr} : c ∈ dueIf b l ↔ b = true ∧ c ∈ l := by
  cases b <;> simp [dueIf]

theorem dueIf_sublist (b : Bool) (l : List Instr) : (dueIf b l).Sublist l := by
  cases b
  · exact List.nil_sublist l
  · exact List.Sublist.refl l

theorem State.mem_dueGrants : c ∈ s.dueGrants ↔
    ∃ k, (∃ g, s.grants.slots[k] = some g ∧ g.remaining ≤ 1) ∧ c = .grantDeadlineExpiry k := by
  simp only [State.dueGrants, List.mem_flatMap, List.mem_finRange, true_and]
  refine exists_congr fun k => ?_
  split
  next g hg => simp [mem_dueIf, hg]
  next hg => simp [hg]

/-- R44: the deadlines that end, in slot order, each once. -/
theorem State.dueGrants_sublist (s : State) :
    s.dueGrants.Sublist ((List.finRange 8).map Instr.grantDeadlineExpiry) := by
  rw [List.map_eq_flatMap]
  refine List.Sublist.flatMap_right _ fun k _ => ?_
  split
  · exact dueIf_sublist _ _
  · exact List.nil_sublist _

/-- R104: the phase timer's expiry is the event of the state it was started for. -/
theorem mem_duePhase {t : Timer} {state : SeqState} : c ∈ dueIf (timerDue t) (phaseEvent state) ↔
    (state = .powering ∧ timerDue t = true) ∧ c = .supplySettleExpiry ∨
      (state = .spinning ∧ timerDue t = true) ∧ c = .spinTimeoutExpiry ∨
      (state = .unloading ∧ timerDue t = true) ∧ c = .unloadTimeExpiry ∨
      (state = .stopping ∧ timerDue t = true) ∧ c = .spinDownExpiry ∨
      (state = .cycleWait ∧ timerDue t = true) ∧ c = .cycleDelayExpiry := by
  rw [mem_dueIf]
  cases state <;> simp [phaseEvent]

/-- What falls due at a tick: the end of the forming, and the event of each timer that reaches the end of its time. -/
theorem State.mem_dueEvents : c ∈ s.dueEvents ↔
    s.link.state = .forming ∧ c = .answerFormed ∨
      (∃ k, (∃ g, s.grants.slots[k] = some g ∧ g.remaining ≤ 1) ∧ c = .grantDeadlineExpiry k) ∨
      timerDue s.guard.sampleTimer = true ∧ c = .sampleTimerExpiry ∨
      timerDue s.guard.settle = true ∧ c = .settleTimerExpiry ∨
      ((s.seq.state = .powering ∧ timerDue s.seq.phase = true) ∧ c = .supplySettleExpiry ∨
        (s.seq.state = .spinning ∧ timerDue s.seq.phase = true) ∧ c = .spinTimeoutExpiry ∨
        (s.seq.state = .unloading ∧ timerDue s.seq.phase = true) ∧ c = .unloadTimeExpiry ∨
        (s.seq.state = .stopping ∧ timerDue s.seq.phase = true) ∧ c = .spinDownExpiry ∨
        (s.seq.state = .cycleWait ∧ timerDue s.seq.phase = true) ∧ c = .cycleDelayExpiry) ∨
      timerDue s.gauge.timer = true ∧
        c = .periodEnd (Config.senseCode s.freeCount) (Config.senseVolts s.freeCount) ∨
      timerDue s.supply.dozeTimer = true ∧ c = .dozeTimerExpiry := by
  rw [← mem_duePhase]
  simp only [State.dueEvents, List.mem_append, mem_dueIf (l := [_]), State.mem_dueGrants, beq_iff_eq,
    List.mem_singleton, or_assoc]

/-- Each event has one place among those that can be due together, so none is due twice. -/
theorem State.nodup_dueEvents (s : State) : s.dueEvents.Nodup := by
  have hplaces : ([Instr.answerFormed] ++ (List.finRange 8).map Instr.grantDeadlineExpiry ++
      [Instr.sampleTimerExpiry] ++ [Instr.settleTimerExpiry] ++ phaseEvent s.seq.state ++
      [Instr.periodEnd (Config.senseCode s.freeCount) (Config.senseVolts s.freeCount)] ++
      [Instr.dozeTimerExpiry]).Nodup := by
    cases s.seq.state <;> simp [phaseEvent, List.finRange_succ]
  refine hplaces.sublist ?_
  exact ((((((dueIf_sublist _ _).append s.dueGrants_sublist).append (dueIf_sublist _ _)).append
    (dueIf_sublist _ _)).append (dueIf_sublist _ _)).append (dueIf_sublist _ _)).append (dueIf_sublist _ _)

/-! ## Their order (R177) -/

/-- Whatever the free values are, all the events are taken, in some order. -/
theorem arrange_perm (fuel count : Nat) (l : List Instr) : (arrange fuel count l).Perm l := by
  induction fuel generalizing count l with
  | zero => simp [arrange]
  | succ fuel ih =>
    match l with
    | [] | [a] => rfl
    | a :: b :: rest =>
      have hk : Config.pickFirst count % (rest.length + 2) < (a :: b :: rest).length := Nat.mod_lt _ (by omega)
      simp only [arrange, List.getElem?_eq_getElem hk, Option.toList_some]
      exact ((ih _ _).append_left _).trans (List.getElem_cons_eraseIdx_perm hk)

/-- The events due at the tick taken in this state, in the order in which they are taken. -/
def State.due (s : State) : List Instr := arrange s.dueEvents.length s.freeCount s.dueEvents

theorem State.mem_due : c ∈ s.due ↔ c ∈ s.dueEvents := (arrange_perm _ _ _).mem_iff

theorem State.nodup_due (s : State) : s.due.Nodup := (arrange_perm _ _ _).nodup_iff.mpr s.nodup_dueEvents

/-! ## The tick (R169) -/

theorem State.tick_of_retain (h : s.supply.mode = .retain) : s.tick = s := if_pos h

theorem State.tick_of_running (h : s.supply.mode ≠ .retain) : s.tick =
    { s.tickTimers.onLink Link.tick with
      pending := s.pending ++ s.due ++ s.link.held, freeCount := s.freeCount + s.dueEvents.length } := if_neg h

theorem State.slot_tickTimers (s : State) (k : Fin 8) : s.tickTimers.grants.slots[k] =
    (s.grants.slots[k]).map fun g => { g with remaining := g.remaining - 1 } :=
  Vector.getElem_map _ _

/-- Settles O3: the tick counts the timers down (`State.tickTimers`) and queues the events due (`State.mem_dueEvents`), each
once (`State.nodup_due`). -/
theorem emptyQueueIsTheTick : Obligations.EmptyQueueIsTheTick := by
  refine fun s hpending => ⟨fun hm => ?_, fun hm => ?_⟩
  · rw [step_of_nil hpending, State.tick_of_retain hm]
  · have htick := (step_of_nil hpending).trans (congrArg Host.Outcome.next (State.tick_of_running hm))
    have hqueue : s.pending ++ s.due ++ s.link.held = s.due ++ s.link.held := by rw [hpending, List.nil_append]
    have hdue (c : Instr) : c ∈ s.due ↔ _ := State.mem_due.trans State.mem_dueEvents
    refine ⟨_, s.due, htick, hqueue, rfl, rfl, rfl, rfl, rfl, rfl, rfl, s.slot_tickTimers, rfl, rfl, rfl, rfl,
      ?sample, ?settle, ?deadline, ?supplySettle, ?spinTimeout, ?unload, ?spinDown, ?cycleDelay, ?period, ?doze, ?formed,
      s.nodup_due, ?onePeriod, ?others⟩
    case onePeriod =>
      intro code volts code' volts' h h'
      simp only [hdue, reduceCtorEq, and_false, false_or, or_false, exists_const, Instr.periodEnd.injEq] at h h'
      obtain ⟨-, rfl, rfl⟩ := h
      obtain ⟨-, rfl, rfl⟩ := h'
      exact ⟨rfl, rfl⟩
    case others =>
      intro c hc
      rcases (hdue c).mp hc with ⟨-, rfl⟩ | ⟨k, -, rfl⟩ | ⟨-, rfl⟩ | ⟨-, rfl⟩ |
        (⟨-, rfl⟩ | ⟨-, rfl⟩ | ⟨-, rfl⟩ | ⟨-, rfl⟩ | ⟨-, rfl⟩) | ⟨-, rfl⟩ | ⟨-, rfl⟩ <;> simp
    all_goals simp [hdue, timerDue_iff]

end Sys2Proof.Machine

/-! The queue and the count of free values (`State.queue`): no operation of a block moves them, and so no command does
(`exec_leaves_queue`). -/

namespace Sys2Proof.Machine

variable {s t : State}

/-- The commands that wait, and the count of free values used: what the blocks of the part neither read nor move. -/
def State.queue (s : State) : List Instr × Nat := (s.pending, s.freeCount)

theorem State.queue_congr (hpending : t.pending = s.pending) (hcount : t.freeCount = s.freeCount) :
    t.queue = s.queue := by rw [State.queue, hpending, hcount, State.queue]

/-! ## The shared operations -/

section
variable (s : State)

@[simp] theorem State.onTable_queue (f : SurveyTable → SurveyTable) : (s.onTable f).queue = s.queue := rfl
@[simp] theorem State.onGrants_queue (f : GrantTable → GrantTable) : (s.onGrants f).queue = s.queue := rfl
@[simp] theorem State.onGuard_queue (f : Guard → Guard) : (s.onGuard f).queue = s.queue := rfl
@[simp] theorem State.onSeq_queue (f : Sequencer → Sequencer) : (s.onSeq f).queue = s.queue := rfl
@[simp] theorem State.onGauge_queue (f : Gauge → Gauge) : (s.onGauge f).queue = s.queue := rfl
@[simp] theorem State.onSupply_queue (f : Supply → Supply) : (s.onSupply f).queue = s.queue := rfl
@[simp] theorem State.onClock_queue (f : Clock → Clock) : (s.onClock f).queue = s.queue := rfl
@[simp] theorem State.onAttention_queue (f : Attention → Attention) : (s.onAttention f).queue = s.queue := rfl
@[simp] theorem State.onLink_queue (f : Link → Link) : (s.onLink f).queue = s.queue := rfl
@[simp] theorem State.onPins_queue (f : Pins → Pins) : (s.onPins f).queue = s.queue := rfl
@[simp] theorem State.raise_queue (c : Cause) : (s.raise c).queue = s.queue := rfl
@[simp] theorem State.setEntry_queue (i : Fin 64) (e : Entry) : (s.setEntry i e).queue = s.queue := rfl
@[simp] theorem State.modifyEntry_queue (i : Fin 64) (f : Entry → Entry) : (s.modifyEntry i f).queue = s.queue := rfl
@[simp] theorem State.clearEntry_queue (i : Fin 64) : (s.clearEntry i).queue = s.queue := rfl
@[simp] theorem State.mapEntries_queue (f : Fin 64 → Entry → Entry) : (s.mapEntries f).queue = s.queue :=
  s.onTable_queue _
@[simp] theorem State.joltMarking_queue : s.joltMarking.queue = s.queue := s.mapEntries_queue _
@[simp] theorem State.leaveDoze_queue : s.leaveDoze.queue = s.queue := rfl
@[simp] theorem State.enterDoze_queue : s.enterDoze.queue = s.queue := rfl
@[simp] theorem State.issueGrant_queue (k : Fin 8) (i : Option (Fin 64)) (window first count : Nat) :
    (s.issueGrant k i window first count).queue = s.queue := rfl
@[simp] theorem State.dozeFollows_queue (held : Bool) : (s.dozeFollows held).queue = s.queue :=
  State.queue_congr (by simp) (by simp)
@[simp] theorem State.powerUpCheck_queue : s.powerUpCheck.queue = s.queue := State.queue_congr (by simp) (by simp)
@[simp] theorem State.wayDown_queue : s.wayDown.queue = s.queue := State.queue_congr (by simp) (by simp)
@[simp] theorem State.readyReached_queue : s.readyReached.queue = s.queue := State.queue_congr (by simp) (by simp)
@[simp] theorem State.offReached_queue : s.offReached.queue = s.queue := State.queue_congr (by simp) (by simp)
@[simp] theorem State.enterCycleWait_queue : s.enterCycleWait.queue = s.queue := State.queue_congr (by simp) (by simp)
@[simp] theorem State.emergencyUnload_queue : s.emergencyUnload.queue = s.queue := State.queue_congr (by simp) (by simp)
@[simp] theorem State.guardEnters_queue (state : GuardState) : (s.guardEnters state).queue = s.queue :=
  State.queue_congr (by simp) (by simp)
@[simp] theorem State.evaluate_queue (was empty : Bool) : (s.evaluate was empty).queue = s.queue :=
  State.queue_congr (by simp) (by simp)
@[simp] theorem State.openChanged_queue : s.openChanged.queue = s.queue := s.evaluate_queue _ _
@[simp] theorem State.sealEntry_queue (i : Fin 64) : (s.sealEntry i).queue = s.queue :=
  State.queue_congr (by simp) (by simp)
@[simp] theorem State.removeGrant_queue (k : Fin 8) (g : Grant) (f : Entry → Entry) :
    (s.removeGrant k g f).queue = s.queue := State.queue_congr (by simp) (by simp)

end

theorem offLink_queue : OffLink State.queue where
  onLink := State.onLink_queue
  dozeFollows := State.dozeFollows_queue
  leaveDoze := State.leaveDoze_queue

/-! ## The events of the guard (R77 to R94) -/

section
variable (s : State)

@[simp] theorem State.missSample_queue : s.missSample.queue = s.queue := by
  unfold State.missSample State.enterBlind; (repeat' split) <;> simp
@[simp] theorem State.transferFailed_queue : s.transferFailed.queue = s.queue := State.missSample_queue _
@[simp] theorem State.sampleExpiry_queue : s.sampleExpiry.queue = s.queue := by
  simp only [State.sampleExpiry]; (repeat' split) <;> simp
@[simp] theorem State.setupEnds_queue (good : Bool) : (s.setupEnds good).queue = s.queue := by
  unfold State.setupEnds; (repeat' split) <;> simp
@[simp] theorem State.settleExpiry_queue : s.settleExpiry.queue = s.queue := by
  unfold State.settleExpiry; split <;> simp
@[simp] theorem State.knock_queue (m2 : Nat) : (s.knock m2).queue = s.queue := by simp [State.knock]
@[simp] theorem State.enterFalling_queue (m2 : Nat) : (s.enterFalling m2).queue = s.queue := by
  simp [State.enterFalling]
@[simp] theorem State.landed_queue : s.landed.queue = s.queue := by simp [State.landed]
@[simp] theorem State.setRun_queue (n : Nat) : (s.setRun n).queue = s.queue := rfl
@[simp] theorem State.lowSample_queue (m2 : Nat) (next : GuardState) : (s.lowSample m2 next).queue = s.queue := by
  unfold State.lowSample; split <;> simp
@[simp] theorem State.sampleInCalm_queue (m2 : Nat) (c : SampleClass) : (s.sampleInCalm m2 c).queue = s.queue := by
  cases c <;> simp [State.sampleInCalm]
@[simp] theorem State.sampleInWatch_queue (m2 : Nat) (c : SampleClass) : (s.sampleInWatch m2 c).queue = s.queue := by
  cases c <;> simp [State.sampleInWatch]
@[simp] theorem State.sampleInFalling_queue (c : SampleClass) : (s.sampleInFalling c).queue = s.queue := by
  unfold State.sampleInFalling; (repeat' split) <;> simp
@[simp] theorem State.sampleInSettle_queue (m2 : Nat) (c : SampleClass) : (s.sampleInSettle m2 c).queue = s.queue := by
  cases c <;> simp [State.sampleInSettle]
@[simp] theorem State.leaveBlind_queue : s.leaveBlind.queue = s.queue := by
  unfold State.leaveBlind; split <;> simp
@[simp] theorem State.takeSample_queue (m2 : Nat) (c : SampleClass) : (s.takeSample m2 c).queue = s.queue := by
  simp only [State.takeSample]; split <;> simp
@[simp] theorem State.readEnds_queue (sample : Option Sample) : (s.readEnds sample).queue = s.queue := by
  unfold State.readEnds; (repeat' split) <;> simp

/-! ## The events of the other blocks -/

theorem State.supplySettles_queue : s.supplySettles.queue = s.queue := by
  simp only [State.supplySettles]; split <;> simp
theorem State.drdyRises_queue : s.drdyRises.queue = s.queue := by
  unfold State.drdyRises; split <;> simp
theorem State.drdyFalls_queue : s.drdyFalls.queue = s.queue := by
  unfold State.drdyFalls; split <;> rfl
theorem State.expireGrant_queue (k : Fin 8) : (s.expireGrant k).queue = s.queue := by
  unfold State.expireGrant; (repeat' split) <;> simp
theorem State.periodEnds_queue (code volts : BitVec 16) : (s.periodEnds code volts).queue = s.queue := by
  simp only [State.periodEnds]; split <;> simp
theorem State.sprsChanges_queue (present : Bool) : (s.sprsChanges present).queue = s.queue := by
  simp only [State.sprsChanges]; (repeat' split) <;> simp
theorem State.dozeExpiry_queue : s.dozeExpiry.queue = s.queue := by
  unfold State.dozeExpiry; split <;> simp

/-! ## The starts -/

@[simp] theorem State.startSettling_queue : s.startSettling.queue = s.queue := by
  simp only [State.startSettling]; split <;> simp
@[simp] theorem State.supplyWarm_queue (sprs : Bool) : (s.supplyWarm sprs).queue = s.queue := by
  simp only [State.supplyWarm]; split <;> simp
theorem State.restart_queue : s.restart.queue = s.queue := by simp [State.restart]
theorem State.warmStart_queue (sprs adsel : Bool) : (s.warmStart sprs adsel).queue = s.queue := by
  simp [State.warmStart, State.sequencerWarm]
theorem State.coldStart_queue (sprs adsel : Bool) : (s.coldStart sprs adsel).queue = s.queue :=
  State.evaluate_queue _ _ _

end

/-! ## The requests -/

section
variable (p : List Byte) (s : State)

theorem State.onSurvey_queue {n : Nat} {act : Fin 64 → Served} (h : ∀ i, (act i).1.queue = s.queue) :
    (s.onSurvey n act).1.queue = s.queue := by
  unfold State.onSurvey
  split
  · rfl
  · split
    · rfl
    · exact h _

theorem serveReadStatus_queue : (serveReadStatus p s).1.queue = s.queue := by
  unfold serveReadStatus; split <;> rfl
theorem serveClearAttention_queue : (serveClearAttention p s).1.queue = s.queue := by
  unfold serveClearAttention; (repeat' split) <;> rfl
theorem serveRestart_queue : (serveRestart p s).1.queue = s.queue := by
  unfold serveRestart
  split
  · rfl
  · exact s.restart_queue
theorem serveSetClock_queue : (serveSetClock p s).1.queue = s.queue := by
  unfold serveSetClock; split <;> rfl

theorem State.setTarget_queue (target : Target) : (s.setTarget target).queue = s.queue := by
  simp only [State.setTarget, State.actOnTarget]; (repeat' split) <;> simp
theorem serveSetTarget_queue : (serveSetTarget p s).1.queue = s.queue := by
  unfold serveSetTarget
  split
  · rfl
  · exact s.setTarget_queue _
theorem serveSetCharge_queue : (serveSetCharge p s).1.queue = s.queue := by
  unfold serveSetCharge
  split
  · rfl
  · exact State.evaluate_queue _ _ _

theorem State.setCycleDelay_queue (d : Nat) : (s.setCycleDelay d).queue = s.queue := by
  simp only [State.setCycleDelay]; (repeat' split) <;> simp
theorem State.setParam_queue (q : Param) (v : Nat) : (s.setParam q v).queue = s.queue := by
  cases q
  case capacity | rPark | rEntry | hyst => exact State.evaluate_queue _ _ _
  case blindPolicy => exact State.powerUpCheck_queue _
  case cycleDelay => exact s.setCycleDelay_queue v
  all_goals rfl
theorem serveSetParam_queue : (serveSetParam p s).1.queue = s.queue := by
  rcases serveSetParam_cases p s with h | ⟨q, v, h⟩ <;> rw [h]
  exact s.setParam_queue q v

theorem serveOpenSurvey_queue : (serveOpenSurvey p s).1.queue = s.queue := by
  rcases serveOpenSurvey_cases p s with h | ⟨i, n, w, label, h⟩ <;> rw [h]
  exact State.openChanged_queue _
theorem serveAddWindow_queue : (serveAddWindow p s).1.queue = s.queue := by
  unfold serveAddWindow
  split
  · rfl
  · split
    · rfl
    · refine s.onSurvey_queue fun i => ?_
      split <;> rfl
theorem serveDropWindow_queue : (serveDropWindow p s).1.queue = s.queue := by
  unfold serveDropWindow
  split
  · rfl
  · refine s.onSurvey_queue fun i => ?_
    split <;> rfl
theorem serveRename_queue : (serveRename p s).1.queue = s.queue := by
  unfold serveRename
  split
  · rfl
  · split
    · rfl
    · exact s.onSurvey_queue fun i => s.modifyEntry_queue i _
theorem serveSetHold_queue : (serveSetHold p s).1.queue = s.queue := by
  unfold serveSetHold
  split
  · rfl
  · exact s.onSurvey_queue fun i => s.modifyEntry_queue i _
theorem serveRestore_queue : (serveRestore p s).1.queue = s.queue := by
  unfold serveRestore; (repeat' split) <;> rfl

theorem State.sealAt_queue (i : Fin 64) (n : Nat) : (s.sealAt i n).1.queue = s.queue := by
  unfold State.sealAt; (repeat' split) <;> simp [State.servedState, State.unchanged]
theorem State.verifiedAt_queue (i : Fin 64) (n : Nat) : (s.verifiedAt i n).1.queue = s.queue := by
  unfold State.verifiedAt; (repeat' split) <;> simp [State.servedState, State.unchanged]
theorem State.reopenAt_queue (i : Fin 64) (n : Nat) : (s.reopenAt i n).1.queue = s.queue := by
  unfold State.reopenAt; split <;> rfl
theorem State.retireAt_queue (i : Fin 64) (n : Nat) : (s.retireAt i n).1.queue = s.queue := by
  unfold State.retireAt; (repeat' split) <;> simp [State.servedState, State.unchanged]

theorem serveSeal_queue : (serveSeal p s).1.queue = s.queue := by
  unfold serveSeal
  split
  · rfl
  · exact s.onSurvey_queue fun i => s.sealAt_queue i _
theorem serveVerified_queue : (serveVerified p s).1.queue = s.queue := by
  unfold serveVerified
  split
  · rfl
  · exact s.onSurvey_queue fun i => s.verifiedAt_queue i _
theorem serveReopen_queue : (serveReopen p s).1.queue = s.queue := by
  unfold serveReopen
  split
  · rfl
  · exact s.onSurvey_queue fun i => s.reopenAt_queue i _
theorem serveRetire_queue : (serveRetire p s).1.queue = s.queue := by
  unfold serveRetire
  split
  · rfl
  · exact s.onSurvey_queue fun i => s.retireAt_queue i _

theorem State.grantOrHold_queue (slot : Option (Fin 64)) (window first count : Nat) :
    (s.grantOrHold slot window first count).1.queue = s.queue := by
  unfold State.grantOrHold
  split
  · rfl
  · rfl
  · cases slot <;> rfl
theorem serveCheckWrite_queue : (serveCheckWrite p s).1.queue = s.queue := by
  rcases serveCheckWrite_cases p s with h | ⟨slot, window, first, count, h⟩ <;> rw [h]
  exact s.grantOrHold_queue slot window first count
theorem serveWriteDone_queue : (serveWriteDone p s).1.queue = s.queue := by
  rcases serveWriteDone_cases p s with h | ⟨k, g, result, h⟩ <;> rw [h]
  exact s.removeGrant_queue k g _

end

/-! ## The commands -/

/-- No command moves the queue or the count of free values. -/
theorem exec_leaves_queue (c : Instr) (h : exec c s = .next t) : t.queue = s.queue := by
  have event {f : State → State} (hf : (f s).queue = s.queue) : (s.event f).queue = s.queue := offLink_queue.event hf
  have phase {f : State → State} (hf : (f s).queue = s.queue) (state : SeqState) :
      (s.event (State.phaseExpiry state f)).queue = s.queue := by
    refine event ?_
    unfold State.phaseExpiry
    split
    · exact hf
    · rfl
  have served {serve : List Byte → State → Served} (hf : ∀ p (b : State), (serve p b).1.queue = b.queue) (c : Instr)
      (code : Byte) (p : List Byte) : (s.request c code p serve).queue = s.queue := by
    rcases offLink_queue.request_cases s c code p serve with hsame | ⟨p, b, hb, hserve⟩
    · exact hsame
    · rw [hserve, hf, hb]
  have reported {serve : List Byte → State → Served} (hf : ∀ (b : State) p, (serve p b).1 = b) (c : Instr)
      (code : Byte) (p : List Byte) : (s.request c code p serve).queue = s.queue :=
    served (fun p b => by rw [hf b p]) c code p
  cases c <;> cases h
  case readStatus => exact served serveReadStatus_queue _ _ _
  case clearAttention => exact served serveClearAttention_queue _ _ _
  case restart => exact served serveRestart_queue _ _ _
  case setParam => exact served serveSetParam_queue _ _ _
  case setClock => exact served serveSetClock_queue _ _ _
  case openSurvey => exact served serveOpenSurvey_queue _ _ _
  case addWindow => exact served serveAddWindow_queue _ _ _
  case dropWindow => exact served serveDropWindow_queue _ _ _
  case rename => exact served serveRename_queue _ _ _
  case verified => exact served serveVerified_queue _ _ _
  case reopen => exact served serveReopen_queue _ _ _
  case setHold => exact served serveSetHold_queue _ _ _
  case retire => exact served serveRetire_queue _ _ _
  case restore => exact served serveRestore_queue _ _ _
  case checkWrite => exact served serveCheckWrite_queue _ _ _
  case writeDone => exact served serveWriteDone_queue _ _ _
  case setTarget => exact served serveSetTarget_queue _ _ _
  case setCharge => exact served serveSetCharge_queue _ _ _
  case readParam => exact reported (fun b p => serveReadParam_state b p) _ _ _
  case readClock => exact reported (fun b p => serveReadClock_state b p) _ _ _
  case findSurvey => exact reported (fun b p => serveFindSurvey_state b p) _ _ _
  case findBlock => exact reported (fun b p => serveFindBlock_state b p) _ _ _
  case readEntry => exact reported (fun b p => serveReadEntry_state b p) _ _ _
  case nextEntry => exact reported (fun b p => serveNextEntry_state b p) _ _ _
  case readGrants => exact reported (fun b p => serveReadGrants_state b p) _ _ _
  case readGuard => exact reported (fun b p => serveReadGuard_state b p) _ _ _
  case readMechanism => exact reported (fun b p => serveReadMechanism_state b p) _ _ _
  case readGauge => exact reported (fun b p => serveReadGauge_state b p) _ _ _
  -- SEAL, whose name is a keyword of Lean, is the first command left
  next => exact served serveSeal_queue _ _ _
  case malformed | unknown => exact offLink_queue.refusedWrite s _ _ _ _
  case emptyWrite | answerRead => exact offLink_queue.transfer (fun b => b.onLink_queue _) s _ _ _ _
  case addressMatch address dir =>
    split
    · rfl
    · exact offLink_queue.onBus (offLink_queue.addressByte s address dir) _
  case wakingTransferEnd => exact offLink_queue.onBus (offLink_queue.wakingEnds s) _
  case answerFormed => exact event (offLink_queue.answerFormed s)
  case linkClear => exact offLink_queue.event (s := s.setLclr false) rfl
  case linkClearRelease => rfl
  case sampleTimerExpiry => exact event s.sampleExpiry_queue
  case setupComplete => exact event (s.setupEnds_queue _)
  case readComplete => exact event (s.readEnds_queue _)
  case settleTimerExpiry => exact event s.settleExpiry_queue
  case grantDeadlineExpiry slot => exact event (s.expireGrant_queue slot)
  case supplySettleExpiry => exact phase s.supplySettles_queue _
  case spinTimeoutExpiry => exact phase (f := State.spinTimesOut) rfl _
  case unloadTimeExpiry => exact phase (f := State.unloads) rfl _
  case spinDownExpiry => exact phase s.enterCycleWait_queue _
  case cycleDelayExpiry => exact phase s.offReached_queue _
  case drdyAsserted => exact offLink_queue.event (s := s.setDrdy true) (State.drdyRises_queue _)
  case drdyReleased => exact offLink_queue.event (s := s.setDrdy false) (State.drdyFalls_queue _)
  case periodEnd code volts => exact event (s.periodEnds_queue code volts)
  case sprsChange present => exact event (s.sprsChanges_queue present)
  case dozeTimerExpiry => exact event s.dozeExpiry_queue
  case enterRetain | retainedContentsLoss | secondStep => split <;> rfl
  case coldStart sprs adsel =>
    split
    · exact s.coldStart_queue sprs adsel
    · rfl
  case warmStart sprs adsel =>
    split
    · exact s.warmStart_queue sprs adsel
    · rfl

/-- No command faults and none is refused: each arm of `exec` answers a next state. -/
theorem exec_completes (c : Instr) (s : State) : ∃ t, exec c s = .next t := by
  cases c <;> exact ⟨_, rfl⟩

/-- Settles O2: every command completes (`exec_completes`) and leaves the queue and the count (`exec_leaves_queue`). -/
theorem everyCommandCompletes : Obligations.EveryCommandCompletes := by
  intro c s
  obtain ⟨t, h⟩ := exec_completes c s
  obtain ⟨hpending, hcount⟩ := Prod.mk.inj (exec_leaves_queue c h)
  exact ⟨t, h, hpending, hcount⟩

end Sys2Proof.Machine

/-! What asserts ATTN_N at each mask (`State.attnAsserted_iff`, `Cause.assertsAt`), and the status report. -/

namespace Sys2Proof.Machine

variable {s u : State} {a : Answer} {p : List Byte}

/-! ## The line (R181, R182) -/

/-- A cause asserts ATTN_N at a mask (R182): FALL at every mask, any other where its level is above the mask. -/
def Cause.assertsAt (mask : Nat) (c : Cause) : Prop := c = .fall ∨ mask < c.level

theorem State.attnAsserted_of_retain (h : s.supply.mode = .retain) : s.attnAsserted = false := by
  simp [State.attnAsserted, h]

theorem State.attnAsserted_iff (h : s.supply.mode ≠ .retain) :
    s.attnAsserted = true ↔ ∃ c, s.isPending c = true ∧ c.assertsAt s.attention.mask := by
  have hmode : (s.supply.mode != .retain) = true := bne_iff_ne.mpr h
  simp only [State.attnAsserted, hmode, Bool.true_and, Bool.or_eq_true, List.any_eq_true, Cause.mem_all, true_and,
    Bool.and_eq_true, decide_eq_true_eq, Cause.assertsAt]
  constructor
  · rintro (hfall | ⟨c, hc, hlevel⟩)
    · exact ⟨.fall, hfall, .inl rfl⟩
    · exact ⟨c, hc, .inr hlevel⟩
  · rintro ⟨c, hc, rfl | hlevel⟩
    · exact .inl hc
    · exact .inr ⟨c, hc, hlevel⟩

/-- At a mask where just the causes with `named` assert the line, it is asserted while one of them is pending. -/
theorem State.attnAsserted_iff_named {named : Cause → Prop} (h : s.supply.mode ≠ .retain)
    (hnamed : ∀ c : Cause, c.assertsAt s.attention.mask ↔ named c) :
    s.attnAsserted = true ↔ ∃ c, s.isPending c = true ∧ named c := by
  simp only [State.attnAsserted_iff h, hnamed]

theorem State.attnAsserted_iff_mem {causes : List Cause} (h : s.supply.mode ≠ .retain)
    (hcauses : ∀ c : Cause, c.assertsAt s.attention.mask ↔ c ∈ causes) :
    s.attnAsserted = true ↔ ∃ c ∈ causes, s.isPending c = true :=
  (State.attnAsserted_iff_named h hcauses).trans (exists_congr fun _ => and_comm)

/-! R181's table, by the levels of R179. -/

theorem Cause.assertsAt_of_le_one {m : Nat} (hm : m ≤ 1) (c : Cause) : c.assertsAt m := by
  cases c <;> simp [Cause.assertsAt, Cause.level] <;> omega

theorem Cause.assertsAt_two (c : Cause) : c.assertsAt 2 ↔ c ≠ .sensor ∧ c ≠ .freed := by
  cases c <;> simp [Cause.assertsAt, Cause.level]

theorem Cause.assertsAt_three (c : Cause) :
    c.assertsAt 3 ↔ c ∈ [Cause.fall, .battery, .restarted, .expired, .supply, .knock, .mechanism] := by
  cases c <;> simp [Cause.assertsAt, Cause.level]

theorem Cause.assertsAt_four (c : Cause) :
    c.assertsAt 4 ↔ c ∈ [Cause.fall, .battery, .restarted, .expired, .supply] := by
  cases c <;> simp [Cause.assertsAt, Cause.level]

theorem Cause.assertsAt_five (c : Cause) : c.assertsAt 5 ↔ c ∈ [Cause.fall, .battery, .restarted] := by
  cases c <;> simp [Cause.assertsAt, Cause.level]

theorem Cause.assertsAt_of_six_le {m : Nat} (hm : 6 ≤ m) (c : Cause) : c.assertsAt m ↔ c = .fall := by
  cases c <;> simp [Cause.assertsAt, Cause.level] <;> omega

/-- Settles O16: R182's definition (`State.attnAsserted_iff`) against R181's table at each mask. -/
theorem maskDecidesTheLine : Obligations.MaskDecidesTheLine := by
  refine fun s => ⟨State.attnAsserted_of_retain, fun hmode => ⟨fun hm => ?_, fun hm => ?_, fun hm => ?_, fun hm => ?_,
    fun hm => ?_, fun hm => ?_⟩⟩
  · simpa using State.attnAsserted_iff_named hmode fun c => iff_true_intro (Cause.assertsAt_of_le_one hm c)
  · exact State.attnAsserted_iff_named hmode (hm ▸ Cause.assertsAt_two)
  · exact State.attnAsserted_iff_mem hmode (hm ▸ Cause.assertsAt_three)
  · exact State.attnAsserted_iff_mem hmode (hm ▸ Cause.assertsAt_four)
  · exact State.attnAsserted_iff_mem hmode (hm ▸ Cause.assertsAt_five)
  · simpa using State.attnAsserted_iff_named hmode (Cause.assertsAt_of_six_le hm)

/-! ## The status report (R183, R184, R205) -/

theorem readStatus_serves (hl : s.listens) (hp : p.length ≤ 80) (h : serveReadStatus p s = (u, a)) :
    Serves (.readStatus p) s u a :=
  serves_of_serve rfl (unlinked_readStatus p) (by decide) hl hp h

theorem four_mul_flag (b : Bool) : 4 * flag b = if b then 4 else 0 := by
  cases b <;> rfl

theorem State.statusFlags_eq (s : State) : s.statusFlags =
    (if s.supply.lost then 1 else 0) + (if s.attnAsserted then 2 else 0) + (if s.attention.dozeFlag then 4 else 0) := by
  rw [State.statusFlags, two_mul_flag, four_mul_flag, flag]

/-- Settles O11: the report with its highest level (`State.highestLevel_eq`) and its flags (`State.statusFlags_eq`), formed
on the state before the doze flag is cleared; the power mode is RUN, where the port listens. -/
theorem statusIsReported : Obligations.StatusIsReported := by
  intro s level hl hlevel
  refine readStatus_serves hl (by simp) ?_
  obtain ⟨hrun, -⟩ := hl
  change (s.onAttention Attention.clearDoze, okAnswer s.statusReport) = _
  rw [State.statusReport, State.highestLevel_eq hlevel, State.statusFlags_eq, hrun]
  rfl

end Sys2Proof.Machine

/-! The writes that reach no block (R194): how a frame is judged, the payloads that no reader takes (R201), and the end of the
forming (R195). -/

namespace Sys2Proof.Machine

variable {s : State} {c : Instr} {a : Answer} {code : Byte} {p : List Byte}

/-! ## How a write is judged (R194) -/

theorem judge_cons {len : Byte} {count : Nat} (h : count ≠ 0) : judge (code :: len :: p) count =
    if count < 2 ∨ 80 < len.toNat ∨ count ≠ 2 + len.toNat then .malformed
    else if requestCodes.contains code then .request code p else .unknown :=
  if_neg h

/-- A frame of fewer than two bytes, or whose length byte is too large or disagrees with the count. -/
theorem judgeWrite_malformed {bytes : List Byte} (hne : bytes ≠ [])
    (h : bytes.length < 2 ∨ ∃ n, bytes[1]? = some n ∧ (80 < n.toNat ∨ bytes.length ≠ 2 + n.toNat)) :
    judgeWrite bytes = .malformed := by
  match bytes, hne with
  | [_], _ => rfl
  | code :: len :: payload, _ =>
    have hlen : 80 < len.toNat ∨ payload.length ≠ len.toNat := by
      rcases h with h | ⟨n, hn, h⟩
      · simp at h
      · obtain rfl : len = n := by simpa using hn
        simp only [List.length_cons] at h
        omega
    have hstored : storedBytes (code :: len :: payload) = code :: len :: payload.take 80 := rfl
    have hcount : countedBytes (code :: len :: payload) = min 255 (payload.length + 2) := rfl
    rw [judgeWrite, hstored, hcount, judge_cons (by omega)]
    exact if_pos (by omega)

/-- The length byte of a payload no frame holds is above 80 or, cut to a byte, disagrees with the count. -/
theorem judgeWrite_overlong (code : Byte) (hp : 80 < p.length) : judgeWrite (requestFrame code p) = .malformed := by
  refine judgeWrite_malformed (List.cons_ne_nil _ _) (.inr ⟨BitVec.ofNat 8 p.length, rfl, ?_⟩)
  have hlength : (requestFrame code p).length = p.length + 2 := rfl
  omega

theorem judgeWrite_unknown (hp : p.length ≤ 80) (hcode : requestCodes.contains code = false) :
    judgeWrite (requestFrame code p) = .unknown := by
  have hlen : (BitVec.ofNat 8 p.length).toNat = p.length := toNat_ofNat_length (by omega)
  have hstored : storedBytes (requestFrame code p) = code :: BitVec.ofNat 8 p.length :: p.take 80 := rfl
  have hcount : countedBytes (requestFrame code p) = min 255 (p.length + 2) := rfl
  rw [judgeWrite, hstored, hcount, judge_cons (by omega), hlen, hcode]
  exact if_neg (by omega)

/-- The codes of R201 lie in these ranges. -/
theorem requestCodes_listed : ∀ code ∈ requestCodes,
    (0x01 ≤ code.toNat ∧ code.toNat ≤ 0x07) ∨ (0x10 ≤ code.toNat ∧ code.toNat ≤ 0x1D) ∨
      (0x20 ≤ code.toNat ∧ code.toNat ≤ 0x22) ∨ code = 0x30 ∨ code = 0x38 ∨ code = 0x39 ∨ code = 0x40 ∨ code = 0x41 := by
  decide

/-! ## Writes answered with no effect -/

/-- A write the port hears, whose judgement is to answer and move no block. -/
theorem refuses_of_write {bytes : List Byte} {rest : State → State}
    (he : exec c s = .next (s.transfer c .write Link.lostWrite (Link.receive bytes) rest)) (hl : s.listens)
    (hne : bytes ≠ [])
    (hrest : ∀ b : State, b.link.buffer = storedBytes bytes → b.link.count = countedBytes bytes →
      rest b = b.answerWrite a) : Refuses c s a := by
  have htransfer : s.transfer c .write Link.lostWrite (Link.receive bytes) rest =
      s.transfer c .write Link.lostWrite (Link.receive bytes) fun b => b.onLink (Link.form a) := by
    have hbusy := hrest ((s.onLink (Link.receive bytes)).dozeFollows s.dozeCondition)
      (by rw [State.dozeFollows_link]; rfl) (by rw [State.dozeFollows_link]; rfl)
    simp only [State.transfer, hbusy]
    rfl
  obtain ⟨hblocks, hlink, hdoze⟩ := State.transfer_onLink (c := c) (dir := .write) (lost := Link.lostWrite)
    (start := Link.receive bytes) (g := Link.form a) hl nofun
  refine ⟨_, he.trans (congrArg Host.Outcome.next htransfer), hblocks, ?_, ?_⟩
  · simp [hlink, Link.receive, Link.form, Link.answering, hne]
  · rw [hdoze, State.dozeCondition_busy _ (by rw [hlink]; exact nofun)]
    rfl

theorem refuses_of_refusedWrite {verdict : Verdict} {refused : Code} {bytes : List Byte}
    (he : exec c s = .next (s.refusedWrite c verdict refused bytes)) (hl : s.listens) (hne : bytes ≠ [])
    (hjudge : judgeWrite bytes = verdict) : Refuses c s (refusal refused) :=
  refuses_of_write (he.trans (congrArg Host.Outcome.next (if_pos hjudge))) hl hne fun _ _ _ => rfl

/-- Every request of R201 goes to the owning block by way of the port. -/
theorem exec_of_requestOf (hc : requestOf c = some (code, p)) :
    ∃ serve, ∀ s, exec c s = .next (s.request c code p serve) := by
  cases c <;> cases hc <;> exact ⟨_, fun _ => rfl⟩

theorem refuses_overlong (hc : requestOf c = some (code, p)) (hl : s.listens) (hp : 80 < p.length) :
    Refuses c s (refusal .malformed) := by
  obtain ⟨serve, he⟩ := exec_of_requestOf hc
  refine refuses_of_write (he s) hl (List.cons_ne_nil _ _) fun b hbuffer hcount => ?_
  have hjudge : judge b.link.buffer b.link.count = .malformed := by
    rw [hbuffer, hcount]
    exact judgeWrite_overlong code hp
  rw [hjudge]

/-! ## Payloads of another length (R201) -/

/-! Each reader of a fixed length takes one shape of list alone, which its second equation says. -/

theorem readNothing_eq_none (h : p.length ≠ 0) : readNothing p = none :=
  readNothing.eq_2 p fun e => h (congrArg List.length e)
theorem readByte_eq_none (h : p.length ≠ 1) : readByte p = none :=
  readByte.eq_2 p fun _ e => h (congrArg List.length e)
theorem readTwo_eq_none (h : p.length ≠ 2) : readTwo p = none :=
  readTwo.eq_2 p fun _ _ e => h (congrArg List.length e)
theorem readFour_eq_none (h : p.length ≠ 4) : readFour p = none :=
  readFour.eq_2 p fun _ _ _ _ e => h (congrArg List.length e)
theorem readParamValue_eq_none (h : p.length ≠ 5) : readParamValue p = none :=
  readParamValue.eq_2 p fun _ _ _ _ _ e => h (congrArg List.length e)
theorem readAdd_eq_none (h : p.length ≠ 7) : readAdd p = none :=
  readAdd.eq_2 p fun _ _ _ _ _ _ _ e => h (congrArg List.length e)
theorem readHold_eq_none (h : p.length ≠ 6) : readHold p = none :=
  readHold.eq_2 p fun _ _ _ _ _ _ e => h (congrArg List.length e)
theorem readCheck_eq_none (h : p.length ≠ 6) : readCheck p = none :=
  readCheck.eq_2 p fun _ _ _ _ _ _ e => h (congrArg List.length e)
theorem readDone_eq_none (h : p.length ≠ 2) : readDone p = none :=
  readDone.eq_2 p fun _ _ e => h (congrArg List.length e)

/-- R10: a label is read where its stated length and the bytes sent agree. -/
theorem readLabel_eq_none (h : ∀ n, p[0]? = some n → p.length ≠ 1 + n.toNat) : readLabel p = none := by
  unfold readLabel
  split
  next n label =>
    refine if_neg fun hlabel => h n rfl ?_
    rw [List.length_cons, hlabel, Nat.add_comm]
  · rfl

theorem readOpen_eq_none (h : ∀ n, p[7]? = some n → p.length ≠ 8 + n.toNat) : readOpen p = none := by
  unfold readOpen
  split
  next rest =>
    have hlabel : readLabel rest = none := readLabel_eq_none fun n hn hlength => h n hn (by simp only [List.length_cons]; omega)
    rw [hlabel]
    rfl
  · rfl

theorem readRename_eq_none (h : ∀ n, p[2]? = some n → p.length ≠ 3 + n.toNat) : readRename p = none := by
  unfold readRename
  split
  next rest =>
    have hlabel : readLabel rest = none := readLabel_eq_none fun n hn hlength => h n hn (by simp only [List.length_cons]; omega)
    rw [hlabel]
    rfl
  · rfl

/-- R71: RESTORE is read where the label length and the window count call for the length of the payload. -/
theorem readRestore_eq_none (h : ∀ n w, p[14]? = some n → p[15 + n.toNat]? = some w →
    p.length ≠ 16 + n.toNat + 5 * w.toNat) : readRestore p = none := by
  unfold readRestore
  split
  next n rest =>
    split
    next w windows hdrop =>
      have hcount : rest[n.toNat]? = some w := by
        rw [← Nat.add_zero n.toNat, ← List.getElem?_drop, hdrop]
        rfl
      have hrest : rest.length - n.toNat = windows.length + 1 := by
        rw [← List.length_drop, hdrop, List.length_cons]
      refine if_neg fun hwindows => h n w rfl ?_ ?_
      · rw [Nat.add_comm]
        exact hcount
      · simp only [List.length_cons]
        omega
    · rfl
  · rfl

section
variable (hl : s.listens) (hp : p.length ≤ 80)
include hl hp

/-- A payload that the owning block refuses in every state. -/
theorem refuses_of_unread {serve : List Byte → State → Served} (he : exec c s = .next (s.request c code p serve))
    (hcode : requestCodes.contains code = true) (hserve : ∀ t, serve p t = (t, a)) : Refuses c s a :=
  serves_of_serve he (fun _ _ _ => by rw [hserve, hserve]) hcode hl hp (hserve s)

/-- Each request of a fixed length is refused by the reader its owning block begins with. -/
theorem refuses_of_fixedLength {n : Nat} (hc : requestOf c = some (code, p)) (hfixed : fixedLength code = some n)
    (hn : p.length ≠ n) (hcheck : code ≠ 0x20) : Refuses c s (refusal .badArg) := by
  cases c <;> cases hc <;> cases hfixed
  case readStatus => exact readStatus_serves hl hp (by rw [serveReadStatus, readNothing_eq_none hn]; rfl)
  case clearAttention => exact clearAttention_serves hl hp (by rw [serveClearAttention, readTwo_eq_none hn]; rfl)
  case restart => exact refuses_of_unread hl hp rfl (by decide) fun _ => by rw [serveRestart, readNothing_eq_none hn]; rfl
  case readParam => exact readParam_serves hl hp (by rw [serveReadParam, readByte_eq_none hn]; rfl)
  case setParam => exact setParam_serves hl hp (by rw [serveSetParam, readParamValue_eq_none hn]; rfl)
  case readClock => exact refuses_of_unread hl hp rfl (by decide) fun _ => by rw [serveReadClock, readNothing_eq_none hn]; rfl
  case setClock => exact refuses_of_unread hl hp rfl (by decide) fun _ => by rw [serveSetClock, readFour_eq_none hn]; rfl
  case addWindow => exact addWindow_serves hl hp (by rw [serveAddWindow, readAdd_eq_none hn]; rfl)
  case dropWindow => exact dropWindow_serves hl hp (by rw [serveDropWindow, readTwo_eq_none hn]; rfl)
  case findSurvey => exact findSurvey_serves hl hp (by rw [serveFindSurvey, readTwo_eq_none hn]; rfl)
  case findBlock => exact findBlock_serves hl hp (by rw [serveFindBlock, readFour_eq_none hn]; rfl)
  case readEntry => exact readEntry_serves hl hp (by rw [serveReadEntry, readByte_eq_none hn]; rfl)
  case nextEntry => exact nextEntry_serves hl hp (by rw [serveNextEntry, readByte_eq_none hn]; rfl)
  next => exact seal_serves hl hp (by rw [serveSeal, readTwo_eq_none hn]; rfl)
  case verified => exact verified_serves hl hp (by rw [serveVerified, readTwo_eq_none hn]; rfl)
  case reopen => exact reopen_serves hl hp (by rw [serveReopen, readTwo_eq_none hn]; rfl)
  case setHold => exact setHold_serves hl hp (by rw [serveSetHold, readHold_eq_none hn]; rfl)
  case retire => exact retire_serves hl hp (by rw [serveRetire, readTwo_eq_none hn]; rfl)
  case checkWrite => exact absurd rfl hcheck
  case writeDone => exact writeDone_serves hl hp (by rw [serveWriteDone, readDone_eq_none hn]; rfl)
  case readGrants => exact readGrants_serves hl hp (by rw [serveReadGrants, readNothing_eq_none hn]; rfl)
  case readGuard => exact readGuard_serves hl hp (by rw [serveReadGuard, readNothing_eq_none hn]; rfl)
  case setTarget => exact setTarget_serves hl hp (by rw [serveSetTarget, readByte_eq_none hn]; rfl)
  case readMechanism => exact readMechanism_serves hl hp (by rw [serveReadMechanism, readNothing_eq_none hn]; rfl)
  case readGauge => exact readGauge_serves hl hp (by rw [serveReadGauge, readNothing_eq_none hn]; rfl)
  case setCharge => exact setCharge_serves hl hp (by rw [serveSetCharge, readTwo_eq_none hn]; rfl)

end

/-- Settles O4: what a write is judged to be (`judgeWrite_malformed`, `judgeWrite_overlong`, `judgeWrite_unknown`), and a
payload that its reader does not take (`refuses_of_fixedLength`, `readRestore_eq_none`). -/
theorem badFramesAndLengthsAreRefused : Obligations.BadFramesAndLengthsAreRefused := by
  refine ⟨fun s hl => ⟨fun bytes hne h => ?_, fun code p hp h1 h2 h3 h4 h5 h6 h7 h8 => ?_, fun c code p hc hp => ?_⟩,
    fun s hl => ⟨fun c code p n hc hp hfixed hn hcheck => ?_, fun p hp hn => ?_, fun p hp h => ?_, fun p hp h => ?_,
      fun p hp h => ?_⟩⟩
  · exact refuses_of_refusedWrite rfl hl hne (judgeWrite_malformed hne h)
  · have hcode : requestCodes.contains code = false := by
      rw [List.contains_eq_mem, decide_eq_false_iff_not]
      intro hmem
      have hlisted := requestCodes_listed code hmem
      tauto
    exact refuses_of_refusedWrite rfl hl (List.cons_ne_nil _ _) (judgeWrite_unknown hp hcode)
  · exact refuses_overlong hc hl hp
  · exact refuses_of_fixedLength hl hp hc hfixed hn hcheck
  · exact checkWrite_serves hl hp (by rw [serveCheckWrite, readCheck_eq_none hn]; rfl)
  · exact openSurvey_serves hl hp (by rw [serveOpenSurvey, readOpen_eq_none h]; rfl)
  · exact rename_serves hl hp (by rw [serveRename, readRename_eq_none h]; rfl)
  · exact restore_serves hl hp (by rw [serveRestore, readRestore_eq_none h]; rfl)

/-! ## The end of the forming (R195) -/

theorem Link.formingEnds_iff (l : Link) : l.formingEnds = true ↔ l.state = .forming ∧ l.ticked = true := by
  simp [Link.formingEnds]

/-- Settles O8: the end of the forming is an event of the link alone (`State.event_onLink`), and an idle one where no forming
ends (`exec_of_idle`). -/
theorem formingEndsWithTheAnswer : Obligations.FormingEndsWithTheAnswer := by
  refine fun s hm => ⟨fun hf ht => ?_, fun h => ?_⟩
  · have hends : s.answerFormed = s.onLink Link.formed := if_pos (s.link.formingEnds_iff.mpr ⟨hf, ht⟩)
    obtain ⟨hdoze, hblocks, hlink⟩ := State.event_onLink hm hends
    exact ⟨_, rfl, hblocks, hdoze, hlink⟩
  · have hidle : s.answerFormed = s := by
      refine if_neg fun hends => ?_
      obtain ⟨hf, ht⟩ := s.link.formingEnds_iff.mp hends
      exact h.elim (· hf) fun hnot => Bool.noConfusion (hnot.symm.trans ht)
    exact exec_of_idle rfl hidle

end Sys2Proof.Machine
